-- ==== Sys2Proof/Word.lean ====
section
/-! DEFINITION. The word types of the machine and their plainest arithmetic: bytes, 16-bit words, the two halves of a
word and the word of two halves (spec/00_scope.md R10, R12; spec/10_state.md R16). -/

namespace Sys2Proof

/-- An 8-bit register or memory byte (R10). -/
abbrev Byte := BitVec 8

/-- A 16-bit register or address (R10). -/
abbrev Word := BitVec 16

namespace Word

/-- `v[15:8]`, the high byte (R12). -/
def hi (w : Word) : Byte := w.extractLsb' 8 8

/-- `v[7:0]`, the low byte (R12). -/
def lo (w : Word) : Byte := w.extractLsb' 0 8

/-- `hi:lo`, the concatenation with `hi` in the high part (R12, R16). -/
def ofBytes (hi lo : Byte) : Word := hi ++ lo

end Word

end Sys2Proof
end

