-- ==== Sys2Proof/Config.lean ====
section
/-! DEFINITION. What an implementation fixes: the named parameters of spec/00_scope.md R11. Those that act after reset
are the record `Settings`, held in State as plain data and never written by a step; those that only choose the reset
state are the record `PowerOn` of Machine/State.lean. The two parameters that are FUNCTIONS of the platform (`P_MAPPER`
for a type 0x01 cartridge, `P_SHADE_RGBA`) are constants with no body: nothing can be proved of their values. -/

namespace Sys2Proof

/-- `P_STOP_MODE` (R11, decision D21): what the stopped flag does. -/
inductive StopMode where
  | flagOnly
  | haltUntilJoypad
  deriving DecidableEq, Repr

/-- `P_LCD_OFF` (R11, decision D29): the PPU while LCDC bit 7 is 0. -/
inductive LcdOff where
  | oamScanInsteadOfDraw
  | frozenAtLine0
  deriving DecidableEq, Repr

/-- `P_STAT_IRQ_MODE` (R11, decision D30): how the OR-ed STAT line raises IF bit 1. -/
inductive StatIrqMode where
  | edge
  | level
  deriving DecidableEq, Repr

/-- The parameters of R11 that a running machine consults. -/
structure Settings where
  /-- `P_BOOT_IMAGE`: the 256 bytes of the boot overlay (R61); consulted only while the overlay is enabled. -/
  bootImage : Vector Byte 256
  /-- `P_INT_DISPATCH_CYCLES` (R209, decision D24). -/
  intDispatchCycles : Nat
  /-- `P_DISPATCH_ENDS_STEP` (R114, decision D25). -/
  dispatchEndsStep : Bool
  /-- `P_STOP_MODE` (R198, R208). -/
  stopMode : StopMode
  /-- `P_LCD_OFF` (R223). -/
  lcdOff : LcdOff
  /-- `P_STAT_IRQ_MODE` (R231). -/
  statIrqMode : StatIrqMode
  /-- `P_FETCH_PHASE` (R224): the parity of `dot - 80` on which the fetcher acts. -/
  fetchPhase : Fin 2
  deriving DecidableEq, Repr

/-- The defaults of R11. The boot image has no default (it is required with the overlay); without the overlay no rule
reads it, and it is all zero here. -/
def Settings.default : Settings where
  bootImage := Vector.replicate 256 0
  intDispatchCycles := 20
  dispatchEndsStep := false
  stopMode := .flagOnly
  lcdOff := .oamScanInsteadOfDraw
  statIrqMode := .edge
  fetchPhase := 1

/-- `P_MAPPER`'s `read` for a type 0x01 cartridge (R78), a FREE VALUE. The controller's hidden state changes only
through `write`, so it is a function of the cartridge image (its length, its nonzero bytes) and of the writes since
reset, most recent first. -/
opaque Config.mapperRead :
  (imageLength : Nat) → (imageCells : List Host.Cell) → (writes : List (Word × Byte)) → (addr : Word) → Byte

/-- `P_SHADE_RGBA` (R53, R229, decision D35): the host's colour of each framebuffer shade, a FREE VALUE. No part of the
machine reads it. -/
opaque Config.shadeRgba : BitVec 2 → BitVec 32

end Sys2Proof
end

