-- ==== Sys2Proof/Machine/AddressMap.lean ====
section
/-! DEFINITION. The address decoder of spec/20_memory.md R60 and the I/O register map of spec/10_state.md R56, as
functions of the address: which unit owns it, which register an I/O address is, and under which key a byte of plain
storage is kept. -/

namespace Sys2Proof.Machine

/-- The owners of R60, one per range of its table. -/
inductive Owner where
  /-- 0x0000 to 0x00FF: the boot overlay while it is active, else the cartridge. -/
  | bootOrCart
  /-- 0x0100 to 0x7FFF: cartridge ROM. -/
  | cartRom
  /-- 0x8000 to 0x9FFF. -/
  | vram
  /-- 0xA000 to 0xBFFF: external RAM, on the cartridge. -/
  | extRam
  /-- 0xC000 to 0xDFFF. -/
  | wram
  /-- 0xE000 to 0xFDFF: the work RAM 0x2000 below. -/
  | echo
  /-- 0xFE00 to 0xFE9F. -/
  | oam
  /-- 0xFEA0 to 0xFEFF. -/
  | unusable
  /-- 0xFF00 to 0xFF7F. -/
  | io
  /-- 0xFF80 to 0xFFFE. -/
  | hram
  /-- 0xFFFF. -/
  | ie
  deriving DecidableEq, Repr

/-- The owner of an address (R60): total, so that no access can miss (R74). -/
def ownerOf (addr : Word) : Owner :=
  let a := addr.toNat
  if a < 0x0100 then .bootOrCart
  else if a < 0x8000 then .cartRom
  else if a < 0xA000 then .vram
  else if a < 0xC000 then .extRam
  else if a < 0xE000 then .wram
  else if a < 0xFE00 then .echo
  else if a < 0xFEA0 then .oam
  else if a < 0xFF00 then .unusable
  else if a < 0xFF80 then .io
  else if a < 0xFFFF then .hram
  else .ie

/-- The registers the map of R56 names in 0xFF00 to 0xFF7F. Every other I/O address, the sound registers among them,
is plain storage (R29, R57). -/
inductive IoReg where
  | p1 | sb | sc | div | tima | tma | tac | ifr
  | lcdc | stat | scy | scx | ly | lyc | dma | bgp | obp0 | obp1 | wy | wx
  | bootOff
  | storage
  deriving DecidableEq, Repr

/-- The register at an I/O address (R56). -/
def ioRegOf (addr : Word) : IoReg :=
  match addr.toNat with
  | 0xFF00 => .p1
  | 0xFF01 => .sb
  | 0xFF02 => .sc
  | 0xFF04 => .div
  | 0xFF05 => .tima
  | 0xFF06 => .tma
  | 0xFF07 => .tac
  | 0xFF0F => .ifr
  | 0xFF40 => .lcdc
  | 0xFF41 => .stat
  | 0xFF42 => .scy
  | 0xFF43 => .scx
  | 0xFF44 => .ly
  | 0xFF45 => .lyc
  | 0xFF46 => .dma
  | 0xFF47 => .bgp
  | 0xFF48 => .obp0
  | 0xFF49 => .obp1
  | 0xFF4A => .wy
  | 0xFF4B => .wx
  | 0xFF50 => .bootOff
  | _ => .storage

/-- The key under which the byte at an address is kept, for the addresses that are plain storage: VRAM, WRAM and its
echo (which share their bytes, R67), OAM, HRAM and the I/O addresses without a behaviour of their own. -/
def storageKey (addr : Word) : Option Nat :=
  match ownerOf addr with
  | .vram | .wram | .oam | .hram => some addr.toNat
  | .echo => some (addr.toNat - 0x2000)
  | .io => if ioRegOf addr = .storage then some addr.toNat else none
  | .bootOrCart | .cartRom | .extRam | .unusable | .ie => none

/-- A key that some address is kept under. -/
def isStorageKey (k : Nat) : Bool :=
  decide (k < 0x10000) && decide (storageKey (BitVec.ofNat 16 k) = some k)

/-- The keys whose reset contents `P_RAM_INIT` gives: the RAMs and the unnamed I/O bytes (R11, R29), but not the sound
registers 0xFF10 to 0xFF26, whose reset values are R57's. -/
def isRamInitKey (k : Nat) : Bool :=
  isStorageKey k && !(decide (0xFF10 ≤ k) && decide (k ≤ 0xFF26))

end Sys2Proof.Machine
end

