-- ==== Sys2Proof/Machine/Memory.lean ====
section
/-! DEFINITION. Sparse storage in one canonical form: a list of (key, value) pairs, keys strictly rising, no value equal
to what an unlisted key reads as. The memory of the machine (every byte of plain storage), the framebuffer and a
cartridge image are kept so. Beside them the cartridge: its image and its mapper (spec/20_memory.md R76 to R79). -/

namespace Sys2Proof.Machine

/-! ## Sparse storage -/

/-- The value at a key; an unlisted key reads as `dflt` says. -/
def Sparse.get {w : Nat} (dflt : Nat → BitVec w) : List (Nat × BitVec w) → Nat → BitVec w
  | [], k => dflt k
  | (k', v) :: rest, k =>
    if k = k' then v else if k < k' then dflt k else Sparse.get dflt rest k

/-- Write one value, keeping the canonical form: writing what an unlisted key reads as removes the entry. -/
def Sparse.set {w : Nat} (dflt : Nat → BitVec w) :
    List (Nat × BitVec w) → Nat → BitVec w → List (Nat × BitVec w)
  | [], k, v => if v = dflt k then [] else [(k, v)]
  | (k', v') :: rest, k, v =>
    if k = k' then
      if v = dflt k then rest else (k, v) :: rest
    else if k < k' then
      if v = dflt k then (k', v') :: rest else (k, v) :: (k', v') :: rest
    else (k', v') :: Sparse.set dflt rest k v

/-- The canonical form, for keys that satisfy `ok`, all of them at least `lo`. -/
def Sparse.wfFrom {w : Nat} (dflt : Nat → BitVec w) (ok : Nat → Bool) : Nat → List (Nat × BitVec w) → Bool
  | _, [] => true
  | lo, (k, v) :: rest =>
    decide (lo ≤ k) && ok k && !(decide (v = dflt k)) && Sparse.wfFrom dflt ok (k + 1) rest

/-! ## The memory -/

/-- The plain storage of the machine, keyed by `storageKey`: VRAM, WRAM, OAM, HRAM and the plain I/O bytes. -/
abbrev Memory := List Host.Cell

/-- What a byte that nothing has written reads as: the reset contents, R57's values for the sound registers and 0x00
elsewhere, the default of `P_RAM_INIT` (spec/10_state.md R27 to R29, R38, R39; assumption 3). -/
def Memory.unlisted (k : Nat) : Byte :=
  match k with
  | 0xFF10 => 0x80
  | 0xFF11 => 0xBF
  | 0xFF12 => 0xF3
  | 0xFF14 => 0xBF
  | 0xFF16 => 0x3F
  | 0xFF19 => 0xBF
  | 0xFF1A => 0x7F
  | 0xFF1B => 0xFF
  | 0xFF1C => 0x9F
  | 0xFF1E => 0xBF
  | 0xFF20 => 0xFF
  | 0xFF23 => 0xBF
  | 0xFF24 => 0x77
  | 0xFF25 => 0xF3
  | 0xFF26 => 0xF1
  | _ => 0x00

/-- The stored byte under a key. -/
def Memory.read (m : Memory) (k : Nat) : Byte := Sparse.get Memory.unlisted m k

/-- Store one byte under a key. -/
def Memory.write (m : Memory) (k : Nat) (v : Byte) : Memory := Sparse.set Memory.unlisted m k v

/-- The canonical form of a memory: keys strictly rising, each a storage key, no entry equal to what an unlisted key
reads as. -/
def Memory.wf (m : Memory) : Bool := Sparse.wfFrom Memory.unlisted isStorageKey 0 m

/-- The reset contents for a `P_RAM_INIT` given as (key, byte) pairs, a later pair for one key overriding an earlier
one; pairs for other keys are ignored. -/
def Memory.ofRamInit (cells : List Host.Cell) : Memory :=
  cells.foldl (fun m c => if isRamInitKey c.1 then m.write c.1 c.2 else m) []

/-! ## The framebuffer -/

/-- The framebuffer (spec/10_state.md R53), keyed by `160 * y + x`; shade 0 unless listed. -/
abbrev FrameBuffer := List (Nat × BitVec 2)

/-- The shade at row `y`, column `x`. -/
def FrameBuffer.shade (fb : FrameBuffer) (y x : Nat) : BitVec 2 := Sparse.get (fun _ => 0) fb (160 * y + x)

/-- Write the shade at row `y`, column `x`. -/
def FrameBuffer.setShade (fb : FrameBuffer) (y x : Nat) (v : BitVec 2) : FrameBuffer :=
  Sparse.set (fun _ => 0) fb (160 * y + x) v

/-- The canonical form: keys strictly rising, inside the 144 rows of 160 columns, no shade 0 listed. -/
def FrameBuffer.wf (fb : FrameBuffer) : Bool :=
  Sparse.wfFrom (fun _ => 0) (fun k => decide (k < 144 * 160)) 0 fb

/-! ## The cartridge -/

/-- A cartridge image `P_CART_ROM` (R11): a byte sequence of this length, 0x00 at every offset that is not listed. -/
structure RomImage where
  length : Nat
  cells : List Host.Cell
  deriving DecidableEq, Repr

/-- The byte at an offset, 0xFF past the end of the image (R77). -/
def RomImage.byte (img : RomImage) (off : Nat) : Byte :=
  if off < img.length then Sparse.get (fun _ => 0) img.cells off else 0xFF

/-- The image with one byte changed, grown to hold it: for loading a program from outside the machine. -/
def RomImage.poke (img : RomImage) (off : Nat) (v : Byte) : RomImage where
  length := max img.length (off + 1)
  cells := Sparse.set (fun _ => 0) img.cells off v

/-- The cartridge and its mapper (R76 to R79). -/
inductive Cart where
  /-- No cartridge: any access to it is the fault `NoCartridge` (R79). -/
  | absent
  /-- Mapper type 0x00, "no banking" (R77). -/
  | romOnly (img : RomImage)
  /-- Mapper type 0x01 (R78): the image, and every write it has received since reset, most recent first, which is all
  its hidden state can depend on. -/
  | banked (img : RomImage) (writes : List (Word × Byte))
  deriving DecidableEq, Repr

/-- `mapper.read(addr)` (R77, R78); `none` when there is no mapper. Type 0x00 has no external RAM, so it reads 0xFF
from 0xA000 on. -/
def Cart.read (c : Cart) (addr : Word) : Option Byte :=
  match c with
  | .absent => none
  | .romOnly img => some (if addr.toNat < 0x8000 then img.byte addr.toNat else 0xFF)
  | .banked img writes => some (Config.mapperRead img.length img.cells writes addr)

/-- `mapper.write(addr, v)` (R77, R78); `none` when there is no mapper. -/
def Cart.write (c : Cart) (addr : Word) (v : Byte) : Option Cart :=
  match c with
  | .absent => none
  | .romOnly img => some (.romOnly img)
  | .banked img writes => some (.banked img ((addr, v) :: writes))

/-- The image in the cartridge, if there is one. -/
def Cart.image? (c : Cart) : Option RomImage :=
  match c with
  | .absent => none
  | .romOnly img => some img
  | .banked img _ => some img

/-- A cartridge is present. -/
def Cart.present (c : Cart) : Bool :=
  match c with
  | .absent => false
  | .romOnly _ | .banked _ _ => true

end Sys2Proof.Machine
end

