-- ==== Sys2Proof/Machine/Devices.lean ====
section
/-! DEFINITION. The units of the machine as plain data, each with its reset value (spec/10_state.md, spec/70_reset_and_hazards.md
R241) and what it does on its own: the CPU's registers, the interrupt registers, the timer's tick (spec/60_exceptions.md
R216), the PPU's tick (R219 to R231), the joypad (R232) and the serial hook (R234). -/

namespace Sys2Proof.Machine

/-! ## CPU registers and control state -/

/-- The CPU registers of R15 to R20 and the control state of R22 to R25. -/
structure Cpu where
  a : Byte
  f : Byte
  b : Byte
  c : Byte
  d : Byte
  e : Byte
  h : Byte
  l : Byte
  sp : Word
  pc : Word
  /-- The interrupt master enable (R22). -/
  ime : Bool
  /-- The countdown of a pending `EI` (R23). -/
  eiPending : Fin 3
  /-- The countdown of a pending `DI` (R23). -/
  diPending : Fin 3
  /-- R24. -/
  halted : Bool
  /-- R25. -/
  stopped : Bool
  deriving DecidableEq, Repr

/-- `P_CPU_INIT` (R11, R21). -/
structure CpuInit where
  a : Byte
  f : Byte
  b : Byte
  c : Byte
  d : Byte
  e : Byte
  h : Byte
  l : Byte
  sp : Word
  deriving DecidableEq, Repr

/-- The default of `P_CPU_INIT` (R21, decision D4). -/
def CpuInit.default (overlay : Bool) : CpuInit :=
  if overlay then
    { a := 0, f := 0, b := 0, c := 0, d := 0, e := 0, h := 0, l := 0, sp := 0 }
  else
    { a := 0x01, f := 0xB0, b := 0x00, c := 0x13, d := 0x00, e := 0xD8, h := 0x01, l := 0x4D, sp := 0xFFFE }

/-- The CPU at reset (R21 to R25): F's low nibble is 0 in every case (R17). -/
def Cpu.atReset (overlay : Bool) (i : CpuInit) : Cpu where
  a := i.a
  f := i.f &&& 0xF0
  b := i.b
  c := i.c
  d := i.d
  e := i.e
  h := i.h
  l := i.l
  sp := i.sp
  pc := if overlay then 0x0000 else 0x0100
  ime := false
  eiPending := 0
  diPending := 0
  halted := false
  stopped := false

/-! ## Interrupt registers -/

/-- IE (0xFFFF, R31) and IF (0xFF0F, R32), all eight bits of each stored. -/
structure Irq where
  ie : Byte
  ifr : Byte
  deriving DecidableEq, Repr

/-- Both are 0x00 at reset (R31, R32). -/
def Irq.atReset : Irq where
  ie := 0x00
  ifr := 0x00

/-- Request interrupt `k`: OR bit `k` into IF (R204). -/
def Irq.request (q : Irq) (k : Nat) : Irq := { q with ifr := q.ifr ||| ((1 : Byte) <<< k) }

/-- Clear bit `k` of IF (R209). -/
def Irq.acknowledge (q : Irq) (k : Nat) : Irq := { q with ifr := q.ifr &&& ~~~((1 : Byte) <<< k) }

/-- The pending interrupts, `IE & IF & 0x1F` (R207): bits 5 to 7 are never pending (R204). -/
def Irq.pending (q : Irq) : Byte := q.ie &&& q.ifr &&& 0x1F

/-! ## Timer and divider -/

/-- The state of R33 to R37. -/
structure Timer where
  /-- `div_counter` (R33); DIV is its high byte. -/
  div : Word
  /-- `timer_last_and` (R34). -/
  lastAnd : Bool
  tima : Byte
  tma : Byte
  tac : Byte
  deriving DecidableEq, Repr

/-- The timer at reset with `P_DIV_INIT` (R33 to R37). -/
def Timer.atReset (divInit : Word) : Timer where
  div := divInit
  lastAnd := false
  tima := 0x00
  tma := 0x00
  tac := 0x00

/-- The counter bit that TAC[1:0] selects (R37). -/
def timerBit (tac : Byte) : Nat :=
  if tac.extractLsb' 0 2 = 0 then 9
  else if tac.extractLsb' 0 2 = 1 then 3
  else if tac.extractLsb' 0 2 = 2 then 5
  else 7

/-- The input of the edge detector: the selected counter bit AND the enable TAC[2] (R216). -/
def timerAnd (div : Word) (tac : Byte) : Bool := div.getLsbD (timerBit tac) && tac.getLsbD 2

/-- One cycle of the timer (R216): the new state, and whether TIMA overflowed. -/
def Timer.tick (t : Timer) : Timer × Bool :=
  let div := t.div + 1
  let and := timerAnd div t.tac
  if t.lastAnd && !and then
    if t.tima = 0xFF then ({ t with div := div, lastAnd := and, tima := t.tma }, true)
    else ({ t with div := div, lastAnd := and, tima := t.tima + 1 }, false)
  else ({ t with div := div, lastAnd := and }, false)

/-! ## PPU -/

/-- The PPU modes (R48). -/
inductive PpuMode where
  | oamScan
  | draw
  | hblank
  | vblank
  deriving DecidableEq, Repr

/-- The fetcher states (R49). -/
inductive FetchState where
  | getTileIndex
  | getDataLow
  | getDataHigh
  | pushToFifo
  deriving DecidableEq, Repr

/-- The PPU's registers and counters (R40 to R53). LY is the counter `ly` (R43). -/
structure Ppu where
  lcdc : Byte
  stat : Byte
  scy : Byte
  scx : Byte
  lyc : Byte
  dma : Byte
  bgp : Byte
  obp0 : Byte
  obp1 : Byte
  wy : Byte
  wx : Byte
  /-- The dot counter, 0 to 455 (R47). -/
  dot : Nat
  /-- The line counter, 0 to 153 (R47). -/
  ly : Nat
  fstate : FetchState
  fetcherX : BitVec 5
  tileIndex : Byte
  tileLo : Byte
  tileHi : Byte
  /-- The background FIFO, front first, at most 16 pixels (R50). -/
  fifo : List (BitVec 2)
  /-- The pixels output on this line, 0 to 160 (R51). -/
  lx : Nat
  /-- The STAT condition at the previous dot (R52). -/
  statLine : Bool
  fb : FrameBuffer
  deriving DecidableEq, Repr

/-- The PPU at reset (R40 to R53, R241). -/
def Ppu.atReset : Ppu where
  lcdc := 0x91
  stat := 0x06
  scy := 0x00
  scx := 0x00
  lyc := 0x00
  dma := 0x00
  bgp := 0xFC
  obp0 := 0xFF
  obp1 := 0xFF
  wy := 0x00
  wx := 0x00
  dot := 0
  ly := 0
  fstate := .getTileIndex
  fetcherX := 0
  tileIndex := 0x00
  tileLo := 0x00
  tileHi := 0x00
  fifo := []
  lx := 0
  statLine := false
  fb := []

/-- The mode as a function of `(ly, dot, LCDC[7])` (R48). -/
def ppuMode (ly dot : Nat) (lcdOn : Bool) : PpuMode :=
  if 144 ≤ ly then .vblank
  else if dot < 80 then .oamScan
  else if dot < 252 then (if lcdOn then .draw else .oamScan)
  else .hblank

/-- The code of a mode in STAT[1:0] (R41, R230). -/
def PpuMode.code (m : PpuMode) : BitVec 2 :=
  match m with
  | .oamScan => 0b10
  | .draw => 0b11
  | .hblank => 0b00
  | .vblank => 0b01

/-- LCDC[7] (R40). -/
def Ppu.lcdOn (p : Ppu) : Bool := p.lcdc.getLsbD 7

/-- LY as the byte the registers and the fetcher see (R43, R225). -/
def Ppu.lyByte (p : Ppu) : Byte := BitVec.ofNat 8 p.ly

/-- The next dot, and the next line after dot 455 (R219). -/
def Ppu.advance (p : Ppu) : Ppu :=
  if p.dot + 1 = 456 then { p with dot := 0, ly := (p.ly + 1) % 154 }
  else { p with dot := p.dot + 1 }

/-- HBlank entry: the line's pixel pipeline is reset; the latches keep their values (R222). -/
def Ppu.hblankEntry (p : Ppu) : Ppu :=
  { p with fstate := .getTileIndex, fetcherX := 0, fifo := [], lx := 0 }

/-- The address of the tile index in the active map (R225). -/
def Ppu.tileMapAddr (p : Ppu) : Nat :=
  let base := if p.lcdc.getLsbD 3 then 0x9C00 else 0x9800
  let col := (p.scx.toNat / 8 + p.fetcherX.toNat) % 32
  let row := (p.lyByte + p.scy).toNat / 8
  base + col + 32 * row

/-- The address of the low byte of the tile row (R226): indices are unsigned from 0x8000, or signed from 0x9000. -/
def Ppu.tileRowAddr (p : Ppu) : Nat :=
  let r := (p.lyByte + p.scy).toNat % 8
  let tile : Word :=
    if p.lcdc.getLsbD 4 then 0x8000 + 16 * p.tileIndex.setWidth 16
    else 0x9000 + 16 * p.tileIndex.signExtend 16
  tile.toNat + 2 * r

/-- The eight pixels of a tile row, bit 7 first, the high plane giving bit 1 (R227). -/
def rowPixels (hi lo : Byte) : List (BitVec 2) :=
  [7, 6, 5, 4, 3, 2, 1, 0].map fun i => BitVec.ofBool (hi.getLsbD i) ++ BitVec.ofBool (lo.getLsbD i)

/-- One state of the fetcher's cycle (R224 to R227); it reads VRAM directly. -/
def Ppu.fetcherStep (mem : Memory) (p : Ppu) : Ppu :=
  match p.fstate with
  | .getTileIndex => { p with tileIndex := mem.read p.tileMapAddr, fstate := .getDataLow }
  | .getDataLow => { p with tileLo := mem.read p.tileRowAddr, fstate := .getDataHigh }
  | .getDataHigh => { p with tileHi := mem.read (p.tileRowAddr + 1), fstate := .pushToFifo }
  | .pushToFifo =>
    if p.fifo.length ≤ 8 then
      { p with fifo := p.fifo ++ rowPixels p.tileHi p.tileLo, fetcherX := p.fetcherX + 1, fstate := .getTileIndex }
    else p

/-- `palette(px)`: the 2-bit shade in slot `px` of BGP (R229). -/
def palette (bgp : Byte) (px : BitVec 2) : BitVec 2 := (bgp >>> (2 * px.toNat)).extractLsb' 0 2

/-- The FIFO consumer: one pixel into the framebuffer, inside the 160-pixel window (R228). -/
def Ppu.fifoPop (p : Ppu) : Ppu :=
  match p.fifo with
  | [] => p
  | px :: rest =>
    if p.lx < 160 then
      { p with fifo := rest, fb := p.fb.setShade p.ly p.lx (palette p.bgp px), lx := p.lx + 1 }
    else p

/-- STAT[2:0] from the position: the coincidence flag and the mode code (R230). -/
def Ppu.setStatLow (p : Ppu) (coincidence : Bool) (mode : BitVec 2) : Ppu :=
  { p with stat := p.stat.extractLsb' 3 5 ++ (BitVec.ofBool coincidence ++ mode) }

/-- The OR-ed STAT condition (R231). -/
def Ppu.statCondition (p : Ppu) (m : PpuMode) : Bool :=
  (p.stat.getLsbD 3 && decide (m = .hblank)) || (p.stat.getLsbD 4 && decide (m = .vblank)) ||
    (p.stat.getLsbD 5 && decide (m = .oamScan)) || (p.stat.getLsbD 6 && decide (p.ly = p.lyc.toNat))

/-- What a tick asks of the rest of the machine: the VBlank request, the STAT request, and the end of a frame (R236). -/
structure PpuEvents where
  vblank : Bool
  stat : Bool
  frameEnd : Bool
  deriving DecidableEq, Repr

/-- A tick with the LCD off under `FrozenAtLine0` (R223). -/
def Ppu.frozenTick (p : Ppu) : Ppu :=
  { ({ p with dot := 0, ly := 0 }.hblankEntry.setStatLow (decide (p.lyc = 0)) 0b00) with statLine := false }

/-- What a Draw dot does to the pixel pipeline: the fetcher on every second dot, then the consumer (R219, R224, R228). -/
def Ppu.drawDot (phase : Fin 2) (mem : Memory) (p : Ppu) : Ppu :=
  if (p.dot - 80) % 2 = phase.val then (p.fetcherStep mem).fifoPop else p.fifoPop

/-- The part of a tick that acts on the new position, before STAT is written (R219). -/
def Ppu.actAt (phase : Fin 2) (mem : Memory) (m : PpuMode) (p : Ppu) : Ppu :=
  if p.ly < 144 ∧ p.dot = 252 then p.hblankEntry
  else if m = .draw then p.drawDot phase mem
  else p

/-- One dot of the PPU (R219). -/
def Ppu.tick (st : Settings) (mem : Memory) (p : Ppu) : Ppu × PpuEvents :=
  if st.lcdOff = .frozenAtLine0 ∧ p.lcdOn = false then (p.frozenTick, ⟨false, false, false⟩)
  else
    let p1 := p.advance
    let m := ppuMode p1.ly p1.dot p1.lcdOn
    let p2 := (p1.actAt st.fetchPhase mem m).setStatLow (decide (p1.ly = p1.lyc.toNat)) m.code
    let line := p2.statCondition m
    ({ p2 with statLine := line },
      { vblank := decide (p1.ly = 144 ∧ p1.dot = 0)
        stat := line && (decide (st.statIrqMode = .level) || !p.statLine)
        frameEnd := decide (p.ly = 153 ∧ p1.ly = 0) })

/-! ## Joypad and serial -/

/-- The state of P1 (R54): the select bits the CPU writes, and the two active-low nibbles the host supplies. -/
structure Joypad where
  select : BitVec 2
  dirs : BitVec 4
  buttons : BitVec 4
  deriving DecidableEq, Repr

/-- Nothing pressed, both groups selected (R54). -/
def Joypad.atReset : Joypad where
  select := 0b00
  dirs := 0xF
  buttons := 0xF

/-- What a read of 0xFF00 returns (R232). -/
def Joypad.p1 (j : Joypad) : Byte :=
  let dirs : BitVec 4 := if j.select.getLsbD 0 then 0xF else j.dirs
  let buttons : BitVec 4 := if j.select.getLsbD 1 then 0xF else j.buttons
  (0b11#2 ++ j.select) ++ (dirs &&& buttons)

/-- SB, SC (R55) and the bytes sent to the host, oldest first (R234). -/
structure Serial where
  sb : Byte
  sc : Byte
  out : List Byte
  deriving DecidableEq, Repr

/-- R55, R234. -/
def Serial.atReset : Serial where
  sb := 0x00
  sc := 0x00
  out := []

/-- A write to SC: it is stored, and 0x81 also sends SB to the host (R234). -/
def Serial.writeSc (x : Serial) (v : Byte) : Serial :=
  if v = 0x81 then { x with sc := v, out := x.out ++ [x.sb] } else { x with sc := v }

/-! ## Boot overlay -/

/-- The boot overlay's state (R30). -/
structure Boot where
  /-- `boot_overlay_enabled`, fixed at reset. -/
  enabled : Bool
  /-- `boot_disabled`, the sticky latch. -/
  disabled : Bool
  /-- `IO[0x50]`, the last byte written to 0xFF50. -/
  reg : Byte
  deriving DecidableEq, Repr

/-- R30. -/
def Boot.atReset (overlay : Bool) : Boot where
  enabled := overlay
  disabled := false
  reg := 0x00

/-- The overlay is active (R30, R61). -/
def Boot.active (x : Boot) : Bool := x.enabled && !x.disabled

/-- A write to 0xFF50: the byte is stored, and a nonzero one sets the latch for good (R62). -/
def Boot.write (x : Boot) (v : Byte) : Boot :=
  { x with reg := v, disabled := x.disabled || decide (v ≠ 0) }

end Sys2Proof.Machine
end

