-- ==== Sys2Proof/Machine/State.lean ====
section
/-! DEFINITION. The state of the machine, its faults and refusals, and its reset (spec/10_state.md, spec/70_reset_and_hazards.md
R240 to R245). State is plain data and holds every piece of state the spec names; INVENTORY.md lists them. -/

namespace Sys2Proof.Machine

/-- Why the machine stops with a fault (spec/60_exceptions.md R213). -/
inductive Fault where
  /-- Raised by a bus access that must reach the cartridge when there is none (R79). Safe: the run ends. -/
  | noCartridge
  /-- An address outside the 16-bit space (R74, R213). Nothing raises it: every address is a `Word` and `ownerOf` is
  total. Safe. -/
  | unreachable
  deriving DecidableEq, Repr

/-- Why the model gives no behaviour. -/
inductive Refusal where
  /-- An instruction that has no meaning yet. No arm of `exec` raises it. Safe. -/
  | notModelled (mnemonic : String)
  /-- Raised by `State.powerOn` for a cartridge whose byte 0x0147 is neither 0x00 nor 0x01 (R76): no run starts. Safe. -/
  | unsupportedMapper
  /-- Raised by `State.powerOn` for a cartridge image shorter than 0x150 bytes, which R11 does not allow. Safe. -/
  | shortImage
  deriving DecidableEq, Repr

/-- The state of the machine. -/
structure State where
  cpu : Cpu
  irq : Irq
  timer : Timer
  ppu : Ppu
  joypad : Joypad
  serial : Serial
  boot : Boot
  cart : Cart
  /-- WRAM, HRAM, VRAM, OAM and the plain I/O bytes. -/
  mem : Memory
  /-- `undef_log`, oldest first (R26). -/
  undefLog : List (Byte × Word)
  /-- The cycles charged in the current CPU step; between steps, what the last `machine_step()` returned (R111, R114). -/
  cycles : Nat
  /-- The last machine step completed a frame (R236). -/
  frameDone : Bool
  /-- The parameters of R11 a running machine consults; no step writes them. -/
  settings : Settings
  deriving DecidableEq, Repr

/-- The parameters of R11 as reset takes them. -/
structure PowerOn where
  /-- `P_CART_ROM`; `none` is a machine without a cartridge (R79). -/
  cart : Option RomImage
  /-- `P_BOOT_OVERLAY`. -/
  bootOverlay : Bool
  /-- `P_CPU_INIT`. -/
  cpuInit : CpuInit
  /-- `P_DIV_INIT`. -/
  divInit : Word
  /-- `P_RAM_INIT`, as the cells that are not 0x00. -/
  ramInit : List Host.Cell
  settings : Settings
  deriving DecidableEq, Repr

/-- The default of `P_DIV_INIT` (R33, decision D7). -/
def PowerOn.divDefault (overlay : Bool) : Word := if overlay then 0x0000 else 0xAB00

/-- The defaults of R11, without the overlay and without a cartridge (`P_CART_ROM` has no default). -/
def PowerOn.default : PowerOn where
  cart := none
  bootOverlay := false
  cpuInit := CpuInit.default false
  divInit := PowerOn.divDefault false
  ramInit := []
  settings := Settings.default

/-- The complete state after reset (R241), all at once and with no cycle elapsed (R242), for given parameters and the
mapper they select. -/
def State.atReset (p : PowerOn) (cart : Cart) : State where
  cpu := Cpu.atReset p.bootOverlay p.cpuInit
  irq := Irq.atReset
  timer := Timer.atReset p.divInit
  ppu := Ppu.atReset
  joypad := Joypad.atReset
  serial := Serial.atReset
  boot := Boot.atReset p.bootOverlay
  cart := cart
  mem := Memory.ofRamInit p.ramInit
  undefLog := []
  cycles := 0
  frameDone := false
  settings := p.settings

/-- Power-on (R240): reset with the mapper that byte 0x0147 of the image selects, or a refusal (R76). -/
def State.powerOn (p : PowerOn) : Host.Outcome State Fault Refusal :=
  match p.cart with
  | none => .next (State.atReset p .absent)
  | some img =>
    if img.length < 0x150 then .refused .shortImage
    else if img.byte 0x0147 = 0x00 then .next (State.atReset p (.romOnly img))
    else if img.byte 0x0147 = 0x01 then .next (State.atReset p (.banked img []))
    else .refused .unsupportedMapper

/-- The machine right after reset, every parameter at its default and no cartridge inserted. -/
def State.reset : State := State.atReset PowerOn.default .absent

end Sys2Proof.Machine
end

