-- ==== Sys2Proof/Machine/Bus.lean ====
section
/-! DEFINITION. The memory bus: one read and one write of a byte (spec/20_memory.md R58), through the decoder of R60 and
the I/O map of spec/10_state.md R56. No read changes anything (R84); the writes with effects of their own are R85's. -/

namespace Sys2Proof.Machine

/-- The byte an I/O register reads as (R56). -/
def ioRead (r : IoReg) (addr : Word) (s : State) : Byte :=
  match r with
  | .p1 => s.joypad.p1
  | .sb => s.serial.sb
  | .sc => s.serial.sc
  | .div => s.timer.div.hi
  | .tima => s.timer.tima
  | .tma => s.timer.tma
  | .tac => s.timer.tac
  | .ifr => s.irq.ifr
  | .lcdc => s.ppu.lcdc
  | .stat => s.ppu.stat
  | .scy => s.ppu.scy
  | .scx => s.ppu.scx
  | .ly => s.ppu.lyByte
  | .lyc => s.ppu.lyc
  | .dma => s.ppu.dma
  | .bgp => s.ppu.bgp
  | .obp0 => s.ppu.obp0
  | .obp1 => s.ppu.obp1
  | .wy => s.ppu.wy
  | .wx => s.ppu.wx
  | .bootOff => s.boot.reg
  | .storage => s.mem.read addr.toNat

/-- The effect of a write to an I/O register (R56, R85): P1 keeps bits 5:4 (R232), DIV clears the counter (R71), STAT
keeps its bits 2:0 (R41), LY ignores the write (R43), and the rest store the byte. -/
def ioWrite (r : IoReg) (addr : Word) (v : Byte) (s : State) : State :=
  match r with
  | .p1 => { s with joypad := { s.joypad with select := v.extractLsb' 4 2 } }
  | .sb => { s with serial := { s.serial with sb := v } }
  | .sc => { s with serial := s.serial.writeSc v }
  | .div => { s with timer := { s.timer with div := 0 } }
  | .tima => { s with timer := { s.timer with tima := v } }
  | .tma => { s with timer := { s.timer with tma := v } }
  | .tac => { s with timer := { s.timer with tac := v } }
  | .ifr => { s with irq := { s.irq with ifr := v } }
  | .lcdc => { s with ppu := { s.ppu with lcdc := v } }
  | .stat => { s with ppu := { s.ppu with stat := (v &&& 0xF8) ||| (s.ppu.stat &&& 0x07) } }
  | .scy => { s with ppu := { s.ppu with scy := v } }
  | .scx => { s with ppu := { s.ppu with scx := v } }
  | .ly => s
  | .lyc => { s with ppu := { s.ppu with lyc := v } }
  | .dma => { s with ppu := { s.ppu with dma := v } }
  | .bgp => { s with ppu := { s.ppu with bgp := v } }
  | .obp0 => { s with ppu := { s.ppu with obp0 := v } }
  | .obp1 => { s with ppu := { s.ppu with obp1 := v } }
  | .wy => { s with ppu := { s.ppu with wy := v } }
  | .wx => { s with ppu := { s.ppu with wx := v } }
  | .bootOff => { s with boot := s.boot.write v }
  | .storage => { s with mem := s.mem.write addr.toNat v }

/-- A read the mapper answers; without a mapper the fault of R79. -/
def cartRead (addr : Word) (s : State) : Except Fault Byte :=
  match s.cart.read addr with
  | some v => .ok v
  | none => .error .noCartridge

/-- A write the mapper receives; without a mapper the fault of R79. -/
def cartWrite (addr : Word) (v : Byte) (s : State) : Except Fault State :=
  match s.cart.write addr v with
  | some c => .ok { s with cart := c }
  | none => .error .noCartridge

/-- A byte of the boot overlay (R61). -/
def overlayByte (addr : Word) (s : State) : Byte := s.settings.bootImage.toList.getD addr.toNat 0x00

/-- `MemRead(addr, 1)` (R58 to R73). -/
def busRead (addr : Word) (s : State) : Except Fault Byte :=
  match ownerOf addr with
  | .bootOrCart => if s.boot.active then .ok (overlayByte addr s) else cartRead addr s
  | .cartRom | .extRam => cartRead addr s
  | .vram | .wram | .oam | .hram => .ok (s.mem.read addr.toNat)
  | .echo => .ok (s.mem.read (addr.toNat - 0x2000))
  | .unusable => .ok 0x00
  | .io => .ok (ioRead (ioRegOf addr) addr s)
  | .ie => .ok s.irq.ie

/-- `MemWrite(addr, 1, v)` (R58 to R73). The overlay affects reads only, so a write below 0x8000 always goes to the
mapper (R61, decision D14). -/
def busWrite (addr : Word) (v : Byte) (s : State) : Except Fault State :=
  match ownerOf addr with
  | .bootOrCart | .cartRom | .extRam => cartWrite addr v s
  | .vram | .wram | .oam | .hram => .ok { s with mem := s.mem.write addr.toNat v }
  | .echo => .ok { s with mem := s.mem.write (addr.toNat - 0x2000) v }
  | .unusable => .ok s
  | .io => .ok (ioWrite (ioRegOf addr) addr v s)
  | .ie => .ok { s with irq := { s.irq with ie := v } }

end Sys2Proof.Machine
end

