-- ==== Sys2Proof/Syntax.lean ====
section
/-! DEFINITION. The instructions as syntax: one constructor per row of spec/opcode_table.json (the eleven undefined
opcodes, one mnemonic there, are one constructor with its opcode), with the operand bytes the row's format carries
(spec/30_encoding.md R95). Beside them the operand fields of R97 to R101. -/

namespace Sys2Proof

/-- The seven registers the 3-bit field `r` names; field value 6 is `(HL)` (R97). -/
inductive Reg8 where
  | b | c | d | e | h | l | a
  deriving DecidableEq, Repr

/-- What the field `r` names: a register, or the memory byte at HL (R97). -/
inductive Loc where
  | reg (r : Reg8)
  | atHl
  deriving DecidableEq, Repr

/-- The pair field `p` of `LD rr,nn`, `ADD HL,rr`, `INC rr` and `DEC rr` (R98). -/
inductive RegPair where
  | bc | de | hl | sp
  deriving DecidableEq, Repr

/-- The pair field `p` of `PUSH` and `POP` (R98). -/
inductive StackPair where
  | bc | de | hl | af
  deriving DecidableEq, Repr

/-- The condition field `cc` (R99). -/
inductive Cond where
  | nz | z | nc | c
  deriving DecidableEq, Repr

/-- The ALU field (R100). -/
inductive AluOp where
  | add | adc | sub | sbc | and | xor | or | cp
  deriving DecidableEq, Repr

/-- Where an ALU operation's operand comes from (R148). -/
inductive AluSrc where
  | loc (l : Loc)
  | imm (n : Byte)
  deriving DecidableEq, Repr

/-- The rotates and shifts of the CB table with `x = 0`, in the order of the field `y` (R101). -/
inductive ShiftOp where
  | rlc | rrc | rl | rr | sla | sra | swap | srl
  deriving DecidableEq, Repr

/-- The instructions. `n` and `e` are the operand byte, `a8` the low byte of an I/O-page address, `nn` the operand word
(R95, R102). The rows with operand bytes stand first, then the rest, each in the table's order. -/
inductive Instr where
  /-- `LD BC,nn` (0x01, R142). -/
  | ldBcNn (nn : Word)
  /-- `LD B,n` (0x06, R124). -/
  | ldBN (n : Byte)
  /-- `LD (nn),SP` (0x08, R145). -/
  | ldIndNnSp (nn : Word)
  /-- `LD C,n` (0x0E, R124). -/
  | ldCN (n : Byte)
  /-- `LD DE,nn` (0x11, R142). -/
  | ldDeNn (nn : Word)
  /-- `LD D,n` (0x16, R124). -/
  | ldDN (n : Byte)
  /-- `JR e` (0x18, R188). -/
  | jrE (e : Byte)
  /-- `LD E,n` (0x1E, R124). -/
  | ldEN (n : Byte)
  /-- `JR NZ,e` (0x20, R189). -/
  | jrNZE (e : Byte)
  /-- `LD HL,nn` (0x21, R142). -/
  | ldHlNn (nn : Word)
  /-- `LD H,n` (0x26, R124). -/
  | ldHN (n : Byte)
  /-- `JR Z,e` (0x28, R189). -/
  | jrZE (e : Byte)
  /-- `LD L,n` (0x2E, R124). -/
  | ldLN (n : Byte)
  /-- `JR NC,e` (0x30, R189). -/
  | jrNCE (e : Byte)
  /-- `LD SP,nn` (0x31, R142). -/
  | ldSpNn (nn : Word)
  /-- `LD (HL),n` (0x36, R127). -/
  | ldIndHlN (n : Byte)
  /-- `JR C,e` (0x38, R189). -/
  | jrCE (e : Byte)
  /-- `LD A,n` (0x3E, R124). -/
  | ldAN (n : Byte)
  /-- `JP NZ,nn` (0xC2, R186). -/
  | jpNZNn (nn : Word)
  /-- `JP nn` (0xC3, R185). -/
  | jpNn (nn : Word)
  /-- `CALL NZ,nn` (0xC4, R191). -/
  | callNZNn (nn : Word)
  /-- `ADD A,n` (0xC6, R149). -/
  | addAN (n : Byte)
  /-- `JP Z,nn` (0xCA, R186). -/
  | jpZNn (nn : Word)
  /-- `PREFIX CB` (0xCB, R201). -/
  | prefixCb (cb : Byte)
  /-- `CALL Z,nn` (0xCC, R191). -/
  | callZNn (nn : Word)
  /-- `CALL nn` (0xCD, R190). -/
  | callNn (nn : Word)
  /-- `ADC A,n` (0xCE, R150). -/
  | adcAN (n : Byte)
  /-- `JP NC,nn` (0xD2, R186). -/
  | jpNCNn (nn : Word)
  /-- `(undefined)` (the eleven opcodes of R107, R202). -/
  | undefined (op : Byte)
  /-- `CALL NC,nn` (0xD4, R191). -/
  | callNCNn (nn : Word)
  /-- `SUB A,n` (0xD6, R151). -/
  | subAN (n : Byte)
  /-- `JP C,nn` (0xDA, R186). -/
  | jpCNn (nn : Word)
  /-- `CALL C,nn` (0xDC, R191). -/
  | callCNn (nn : Word)
  /-- `SBC A,n` (0xDE, R152). -/
  | sbcAN (n : Byte)
  /-- `LDH (a8),A` (0xE0, R139). -/
  | ldhIndA8A (a8 : Byte)
  /-- `AND A,n` (0xE6, R154). -/
  | andAN (n : Byte)
  /-- `ADD SP,e` (0xE8, R168). -/
  | addSpE (e : Byte)
  /-- `LD (nn),A` (0xEA, R137). -/
  | ldIndNnA (nn : Word)
  /-- `XOR A,n` (0xEE, R155). -/
  | xorAN (n : Byte)
  /-- `LDH A,(a8)` (0xF0, R138). -/
  | ldhAIndA8 (a8 : Byte)
  /-- `OR A,n` (0xF6, R156). -/
  | orAN (n : Byte)
  /-- `LD HL,SP+e` (0xF8, R144). -/
  | ldHlSpE (e : Byte)
  /-- `LD A,(nn)` (0xFA, R136). -/
  | ldAIndNn (nn : Word)
  /-- `CP A,n` (0xFE, R153). -/
  | cpAN (n : Byte)
  /-- `NOP` (0x00, R196). -/
  | nop
  /-- `LD (BC),A` (0x02, R134). -/
  | ldIndBcA
  /-- `INC BC` (0x03, R166). -/
  | incBc
  /-- `INC B` (0x04, R157). -/
  | incB
  /-- `DEC B` (0x05, R159). -/
  | decB
  /-- `RLCA` (0x07, R169). -/
  | rlca
  /-- `ADD HL,BC` (0x09, R165). -/
  | addHlBc
  /-- `LD A,(BC)` (0x0A, R132). -/
  | ldAIndBc
  /-- `DEC BC` (0x0B, R167). -/
  | decBc
  /-- `INC C` (0x0C, R157). -/
  | incC
  /-- `DEC C` (0x0D, R159). -/
  | decC
  /-- `RRCA` (0x0F, R170). -/
  | rrca
  /-- `STOP` (0x10, R198). -/
  | stop
  /-- `LD (DE),A` (0x12, R135). -/
  | ldIndDeA
  /-- `INC DE` (0x13, R166). -/
  | incDe
  /-- `INC D` (0x14, R157). -/
  | incD
  /-- `DEC D` (0x15, R159). -/
  | decD
  /-- `RLA` (0x17, R171). -/
  | rla
  /-- `ADD HL,DE` (0x19, R165). -/
  | addHlDe
  /-- `LD A,(DE)` (0x1A, R133). -/
  | ldAIndDe
  /-- `DEC DE` (0x1B, R167). -/
  | decDe
  /-- `INC E` (0x1C, R157). -/
  | incE
  /-- `DEC E` (0x1D, R159). -/
  | decE
  /-- `RRA` (0x1F, R172). -/
  | rra
  /-- `LD (HL+),A` (0x22, R130). -/
  | ldIndHlIncA
  /-- `INC HL` (0x23, R166). -/
  | incHl
  /-- `INC H` (0x24, R157). -/
  | incH
  /-- `DEC H` (0x25, R159). -/
  | decH
  /-- `DAA` (0x27, R161). -/
  | daa
  /-- `ADD HL,HL` (0x29, R165). -/
  | addHlHl
  /-- `LD A,(HL+)` (0x2A, R128). -/
  | ldAIndHlInc
  /-- `DEC HL` (0x2B, R167). -/
  | decHl
  /-- `INC L` (0x2C, R157). -/
  | incL
  /-- `DEC L` (0x2D, R159). -/
  | decL
  /-- `CPL` (0x2F, R162). -/
  | cpl
  /-- `LD (HL-),A` (0x32, R131). -/
  | ldIndHlDecA
  /-- `INC SP` (0x33, R166). -/
  | incSp
  /-- `INC (HL)` (0x34, R158). -/
  | incIndHl
  /-- `DEC (HL)` (0x35, R160). -/
  | decIndHl
  /-- `SCF` (0x37, R163). -/
  | scf
  /-- `ADD HL,SP` (0x39, R165). -/
  | addHlSp
  /-- `LD A,(HL-)` (0x3A, R129). -/
  | ldAIndHlDec
  /-- `DEC SP` (0x3B, R167). -/
  | decSp
  /-- `INC A` (0x3C, R157). -/
  | incA
  /-- `DEC A` (0x3D, R159). -/
  | decA
  /-- `CCF` (0x3F, R164). -/
  | ccf
  /-- `LD B,B` (0x40, R123). -/
  | ldBB
  /-- `LD B,C` (0x41, R123). -/
  | ldBC
  /-- `LD B,D` (0x42, R123). -/
  | ldBD
  /-- `LD B,E` (0x43, R123). -/
  | ldBE
  /-- `LD B,H` (0x44, R123). -/
  | ldBH
  /-- `LD B,L` (0x45, R123). -/
  | ldBL
  /-- `LD B,(HL)` (0x46, R125). -/
  | ldBIndHl
  /-- `LD B,A` (0x47, R123). -/
  | ldBA
  /-- `LD C,B` (0x48, R123). -/
  | ldCB
  /-- `LD C,C` (0x49, R123). -/
  | ldCC
  /-- `LD C,D` (0x4A, R123). -/
  | ldCD
  /-- `LD C,E` (0x4B, R123). -/
  | ldCE
  /-- `LD C,H` (0x4C, R123). -/
  | ldCH
  /-- `LD C,L` (0x4D, R123). -/
  | ldCL
  /-- `LD C,(HL)` (0x4E, R125). -/
  | ldCIndHl
  /-- `LD C,A` (0x4F, R123). -/
  | ldCA
  /-- `LD D,B` (0x50, R123). -/
  | ldDB
  /-- `LD D,C` (0x51, R123). -/
  | ldDC
  /-- `LD D,D` (0x52, R123). -/
  | ldDD
  /-- `LD D,E` (0x53, R123). -/
  | ldDE
  /-- `LD D,H` (0x54, R123). -/
  | ldDH
  /-- `LD D,L` (0x55, R123). -/
  | ldDL
  /-- `LD D,(HL)` (0x56, R125). -/
  | ldDIndHl
  /-- `LD D,A` (0x57, R123). -/
  | ldDA
  /-- `LD E,B` (0x58, R123). -/
  | ldEB
  /-- `LD E,C` (0x59, R123). -/
  | ldEC
  /-- `LD E,D` (0x5A, R123). -/
  | ldED
  /-- `LD E,E` (0x5B, R123). -/
  | ldEE
  /-- `LD E,H` (0x5C, R123). -/
  | ldEH
  /-- `LD E,L` (0x5D, R123). -/
  | ldEL
  /-- `LD E,(HL)` (0x5E, R125). -/
  | ldEIndHl
  /-- `LD E,A` (0x5F, R123). -/
  | ldEA
  /-- `LD H,B` (0x60, R123). -/
  | ldHB
  /-- `LD H,C` (0x61, R123). -/
  | ldHC
  /-- `LD H,D` (0x62, R123). -/
  | ldHD
  /-- `LD H,E` (0x63, R123). -/
  | ldHE
  /-- `LD H,H` (0x64, R123). -/
  | ldHH
  /-- `LD H,L` (0x65, R123). -/
  | ldHL
  /-- `LD H,(HL)` (0x66, R125). -/
  | ldHIndHl
  /-- `LD H,A` (0x67, R123). -/
  | ldHA
  /-- `LD L,B` (0x68, R123). -/
  | ldLB
  /-- `LD L,C` (0x69, R123). -/
  | ldLC
  /-- `LD L,D` (0x6A, R123). -/
  | ldLD
  /-- `LD L,E` (0x6B, R123). -/
  | ldLE
  /-- `LD L,H` (0x6C, R123). -/
  | ldLH
  /-- `LD L,L` (0x6D, R123). -/
  | ldLL
  /-- `LD L,(HL)` (0x6E, R125). -/
  | ldLIndHl
  /-- `LD L,A` (0x6F, R123). -/
  | ldLA
  /-- `LD (HL),B` (0x70, R126). -/
  | ldIndHlB
  /-- `LD (HL),C` (0x71, R126). -/
  | ldIndHlC
  /-- `LD (HL),D` (0x72, R126). -/
  | ldIndHlD
  /-- `LD (HL),E` (0x73, R126). -/
  | ldIndHlE
  /-- `LD (HL),H` (0x74, R126). -/
  | ldIndHlH
  /-- `LD (HL),L` (0x75, R126). -/
  | ldIndHlL
  /-- `HALT` (0x76, R197). -/
  | halt
  /-- `LD (HL),A` (0x77, R126). -/
  | ldIndHlA
  /-- `LD A,B` (0x78, R123). -/
  | ldAB
  /-- `LD A,C` (0x79, R123). -/
  | ldAC
  /-- `LD A,D` (0x7A, R123). -/
  | ldAD
  /-- `LD A,E` (0x7B, R123). -/
  | ldAE
  /-- `LD A,H` (0x7C, R123). -/
  | ldAH
  /-- `LD A,L` (0x7D, R123). -/
  | ldAL
  /-- `LD A,(HL)` (0x7E, R125). -/
  | ldAIndHl
  /-- `LD A,A` (0x7F, R123). -/
  | ldAA
  /-- `ADD A,B` (0x80, R149). -/
  | addAB
  /-- `ADD A,C` (0x81, R149). -/
  | addAC
  /-- `ADD A,D` (0x82, R149). -/
  | addAD
  /-- `ADD A,E` (0x83, R149). -/
  | addAE
  /-- `ADD A,H` (0x84, R149). -/
  | addAH
  /-- `ADD A,L` (0x85, R149). -/
  | addAL
  /-- `ADD A,(HL)` (0x86, R149). -/
  | addAIndHl
  /-- `ADD A,A` (0x87, R149). -/
  | addAA
  /-- `ADC A,B` (0x88, R150). -/
  | adcAB
  /-- `ADC A,C` (0x89, R150). -/
  | adcAC
  /-- `ADC A,D` (0x8A, R150). -/
  | adcAD
  /-- `ADC A,E` (0x8B, R150). -/
  | adcAE
  /-- `ADC A,H` (0x8C, R150). -/
  | adcAH
  /-- `ADC A,L` (0x8D, R150). -/
  | adcAL
  /-- `ADC A,(HL)` (0x8E, R150). -/
  | adcAIndHl
  /-- `ADC A,A` (0x8F, R150). -/
  | adcAA
  /-- `SUB A,B` (0x90, R151). -/
  | subAB
  /-- `SUB A,C` (0x91, R151). -/
  | subAC
  /-- `SUB A,D` (0x92, R151). -/
  | subAD
  /-- `SUB A,E` (0x93, R151). -/
  | subAE
  /-- `SUB A,H` (0x94, R151). -/
  | subAH
  /-- `SUB A,L` (0x95, R151). -/
  | subAL
  /-- `SUB A,(HL)` (0x96, R151). -/
  | subAIndHl
  /-- `SUB A,A` (0x97, R151). -/
  | subAA
  /-- `SBC A,B` (0x98, R152). -/
  | sbcAB
  /-- `SBC A,C` (0x99, R152). -/
  | sbcAC
  /-- `SBC A,D` (0x9A, R152). -/
  | sbcAD
  /-- `SBC A,E` (0x9B, R152). -/
  | sbcAE
  /-- `SBC A,H` (0x9C, R152). -/
  | sbcAH
  /-- `SBC A,L` (0x9D, R152). -/
  | sbcAL
  /-- `SBC A,(HL)` (0x9E, R152). -/
  | sbcAIndHl
  /-- `SBC A,A` (0x9F, R152). -/
  | sbcAA
  /-- `AND A,B` (0xA0, R154). -/
  | andAB
  /-- `AND A,C` (0xA1, R154). -/
  | andAC
  /-- `AND A,D` (0xA2, R154). -/
  | andAD
  /-- `AND A,E` (0xA3, R154). -/
  | andAE
  /-- `AND A,H` (0xA4, R154). -/
  | andAH
  /-- `AND A,L` (0xA5, R154). -/
  | andAL
  /-- `AND A,(HL)` (0xA6, R154). -/
  | andAIndHl
  /-- `AND A,A` (0xA7, R154). -/
  | andAA
  /-- `XOR A,B` (0xA8, R155). -/
  | xorAB
  /-- `XOR A,C` (0xA9, R155). -/
  | xorAC
  /-- `XOR A,D` (0xAA, R155). -/
  | xorAD
  /-- `XOR A,E` (0xAB, R155). -/
  | xorAE
  /-- `XOR A,H` (0xAC, R155). -/
  | xorAH
  /-- `XOR A,L` (0xAD, R155). -/
  | xorAL
  /-- `XOR A,(HL)` (0xAE, R155). -/
  | xorAIndHl
  /-- `XOR A,A` (0xAF, R155). -/
  | xorAA
  /-- `OR A,B` (0xB0, R156). -/
  | orAB
  /-- `OR A,C` (0xB1, R156). -/
  | orAC
  /-- `OR A,D` (0xB2, R156). -/
  | orAD
  /-- `OR A,E` (0xB3, R156). -/
  | orAE
  /-- `OR A,H` (0xB4, R156). -/
  | orAH
  /-- `OR A,L` (0xB5, R156). -/
  | orAL
  /-- `OR A,(HL)` (0xB6, R156). -/
  | orAIndHl
  /-- `OR A,A` (0xB7, R156). -/
  | orAA
  /-- `CP A,B` (0xB8, R153). -/
  | cpAB
  /-- `CP A,C` (0xB9, R153). -/
  | cpAC
  /-- `CP A,D` (0xBA, R153). -/
  | cpAD
  /-- `CP A,E` (0xBB, R153). -/
  | cpAE
  /-- `CP A,H` (0xBC, R153). -/
  | cpAH
  /-- `CP A,L` (0xBD, R153). -/
  | cpAL
  /-- `CP A,(HL)` (0xBE, R153). -/
  | cpAIndHl
  /-- `CP A,A` (0xBF, R153). -/
  | cpAA
  /-- `RET NZ` (0xC0, R193). -/
  | retNZ
  /-- `POP BC` (0xC1, R147). -/
  | popBc
  /-- `PUSH BC` (0xC5, R146). -/
  | pushBc
  /-- `RST 0x00` (0xC7, R195). -/
  | rst00
  /-- `RET Z` (0xC8, R193). -/
  | retZ
  /-- `RET` (0xC9, R192). -/
  | ret
  /-- `RST 0x08` (0xCF, R195). -/
  | rst08
  /-- `RET NC` (0xD0, R193). -/
  | retNC
  /-- `POP DE` (0xD1, R147). -/
  | popDe
  /-- `PUSH DE` (0xD5, R146). -/
  | pushDe
  /-- `RST 0x10` (0xD7, R195). -/
  | rst10
  /-- `RET C` (0xD8, R193). -/
  | retC
  /-- `RETI` (0xD9, R194). -/
  | reti
  /-- `RST 0x18` (0xDF, R195). -/
  | rst18
  /-- `POP HL` (0xE1, R147). -/
  | popHl
  /-- `LD (C),A` (0xE2, R141). -/
  | ldIndCA
  /-- `PUSH HL` (0xE5, R146). -/
  | pushHl
  /-- `RST 0x20` (0xE7, R195). -/
  | rst20
  /-- `JP HL` (0xE9, R187). -/
  | jpHl
  /-- `RST 0x28` (0xEF, R195). -/
  | rst28
  /-- `POP AF` (0xF1, R147). -/
  | popAf
  /-- `LD A,(C)` (0xF2, R140). -/
  | ldAIndC
  /-- `DI` (0xF3, R199). -/
  | di
  /-- `PUSH AF` (0xF5, R146). -/
  | pushAf
  /-- `RST 0x30` (0xF7, R195). -/
  | rst30
  /-- `LD SP,HL` (0xF9, R143). -/
  | ldSpHl
  /-- `EI` (0xFB, R200). -/
  | ei
  /-- `RST 0x38` (0xFF, R195). -/
  | rst38
  /-- `RLC B` (0xCB00, R174). -/
  | rlcB
  /-- `RLC C` (0xCB01, R174). -/
  | rlcC
  /-- `RLC D` (0xCB02, R174). -/
  | rlcD
  /-- `RLC E` (0xCB03, R174). -/
  | rlcE
  /-- `RLC H` (0xCB04, R174). -/
  | rlcH
  /-- `RLC L` (0xCB05, R174). -/
  | rlcL
  /-- `RLC (HL)` (0xCB06, R174). -/
  | rlcIndHl
  /-- `RLC A` (0xCB07, R174). -/
  | rlcA
  /-- `RRC B` (0xCB08, R175). -/
  | rrcB
  /-- `RRC C` (0xCB09, R175). -/
  | rrcC
  /-- `RRC D` (0xCB0A, R175). -/
  | rrcD
  /-- `RRC E` (0xCB0B, R175). -/
  | rrcE
  /-- `RRC H` (0xCB0C, R175). -/
  | rrcH
  /-- `RRC L` (0xCB0D, R175). -/
  | rrcL
  /-- `RRC (HL)` (0xCB0E, R175). -/
  | rrcIndHl
  /-- `RRC A` (0xCB0F, R175). -/
  | rrcA
  /-- `RL B` (0xCB10, R176). -/
  | rlB
  /-- `RL C` (0xCB11, R176). -/
  | rlC
  /-- `RL D` (0xCB12, R176). -/
  | rlD
  /-- `RL E` (0xCB13, R176). -/
  | rlE
  /-- `RL H` (0xCB14, R176). -/
  | rlH
  /-- `RL L` (0xCB15, R176). -/
  | rlL
  /-- `RL (HL)` (0xCB16, R176). -/
  | rlIndHl
  /-- `RL A` (0xCB17, R176). -/
  | rlA
  /-- `RR B` (0xCB18, R177). -/
  | rrB
  /-- `RR C` (0xCB19, R177). -/
  | rrC
  /-- `RR D` (0xCB1A, R177). -/
  | rrD
  /-- `RR E` (0xCB1B, R177). -/
  | rrE
  /-- `RR H` (0xCB1C, R177). -/
  | rrH
  /-- `RR L` (0xCB1D, R177). -/
  | rrL
  /-- `RR (HL)` (0xCB1E, R177). -/
  | rrIndHl
  /-- `RR A` (0xCB1F, R177). -/
  | rrA
  /-- `SLA B` (0xCB20, R178). -/
  | slaB
  /-- `SLA C` (0xCB21, R178). -/
  | slaC
  /-- `SLA D` (0xCB22, R178). -/
  | slaD
  /-- `SLA E` (0xCB23, R178). -/
  | slaE
  /-- `SLA H` (0xCB24, R178). -/
  | slaH
  /-- `SLA L` (0xCB25, R178). -/
  | slaL
  /-- `SLA (HL)` (0xCB26, R178). -/
  | slaIndHl
  /-- `SLA A` (0xCB27, R178). -/
  | slaA
  /-- `SRA B` (0xCB28, R179). -/
  | sraB
  /-- `SRA C` (0xCB29, R179). -/
  | sraC
  /-- `SRA D` (0xCB2A, R179). -/
  | sraD
  /-- `SRA E` (0xCB2B, R179). -/
  | sraE
  /-- `SRA H` (0xCB2C, R179). -/
  | sraH
  /-- `SRA L` (0xCB2D, R179). -/
  | sraL
  /-- `SRA (HL)` (0xCB2E, R179). -/
  | sraIndHl
  /-- `SRA A` (0xCB2F, R179). -/
  | sraA
  /-- `SWAP B` (0xCB30, R180). -/
  | swapB
  /-- `SWAP C` (0xCB31, R180). -/
  | swapC
  /-- `SWAP D` (0xCB32, R180). -/
  | swapD
  /-- `SWAP E` (0xCB33, R180). -/
  | swapE
  /-- `SWAP H` (0xCB34, R180). -/
  | swapH
  /-- `SWAP L` (0xCB35, R180). -/
  | swapL
  /-- `SWAP (HL)` (0xCB36, R180). -/
  | swapIndHl
  /-- `SWAP A` (0xCB37, R180). -/
  | swapA
  /-- `SRL B` (0xCB38, R181). -/
  | srlB
  /-- `SRL C` (0xCB39, R181). -/
  | srlC
  /-- `SRL D` (0xCB3A, R181). -/
  | srlD
  /-- `SRL E` (0xCB3B, R181). -/
  | srlE
  /-- `SRL H` (0xCB3C, R181). -/
  | srlH
  /-- `SRL L` (0xCB3D, R181). -/
  | srlL
  /-- `SRL (HL)` (0xCB3E, R181). -/
  | srlIndHl
  /-- `SRL A` (0xCB3F, R181). -/
  | srlA
  /-- `BIT 0,B` (0xCB40, R182). -/
  | bit0B
  /-- `BIT 0,C` (0xCB41, R182). -/
  | bit0C
  /-- `BIT 0,D` (0xCB42, R182). -/
  | bit0D
  /-- `BIT 0,E` (0xCB43, R182). -/
  | bit0E
  /-- `BIT 0,H` (0xCB44, R182). -/
  | bit0H
  /-- `BIT 0,L` (0xCB45, R182). -/
  | bit0L
  /-- `BIT 0,(HL)` (0xCB46, R182). -/
  | bit0IndHl
  /-- `BIT 0,A` (0xCB47, R182). -/
  | bit0A
  /-- `BIT 1,B` (0xCB48, R182). -/
  | bit1B
  /-- `BIT 1,C` (0xCB49, R182). -/
  | bit1C
  /-- `BIT 1,D` (0xCB4A, R182). -/
  | bit1D
  /-- `BIT 1,E` (0xCB4B, R182). -/
  | bit1E
  /-- `BIT 1,H` (0xCB4C, R182). -/
  | bit1H
  /-- `BIT 1,L` (0xCB4D, R182). -/
  | bit1L
  /-- `BIT 1,(HL)` (0xCB4E, R182). -/
  | bit1IndHl
  /-- `BIT 1,A` (0xCB4F, R182). -/
  | bit1A
  /-- `BIT 2,B` (0xCB50, R182). -/
  | bit2B
  /-- `BIT 2,C` (0xCB51, R182). -/
  | bit2C
  /-- `BIT 2,D` (0xCB52, R182). -/
  | bit2D
  /-- `BIT 2,E` (0xCB53, R182). -/
  | bit2E
  /-- `BIT 2,H` (0xCB54, R182). -/
  | bit2H
  /-- `BIT 2,L` (0xCB55, R182). -/
  | bit2L
  /-- `BIT 2,(HL)` (0xCB56, R182). -/
  | bit2IndHl
  /-- `BIT 2,A` (0xCB57, R182). -/
  | bit2A
  /-- `BIT 3,B` (0xCB58, R182). -/
  | bit3B
  /-- `BIT 3,C` (0xCB59, R182). -/
  | bit3C
  /-- `BIT 3,D` (0xCB5A, R182). -/
  | bit3D
  /-- `BIT 3,E` (0xCB5B, R182). -/
  | bit3E
  /-- `BIT 3,H` (0xCB5C, R182). -/
  | bit3H
  /-- `BIT 3,L` (0xCB5D, R182). -/
  | bit3L
  /-- `BIT 3,(HL)` (0xCB5E, R182). -/
  | bit3IndHl
  /-- `BIT 3,A` (0xCB5F, R182). -/
  | bit3A
  /-- `BIT 4,B` (0xCB60, R182). -/
  | bit4B
  /-- `BIT 4,C` (0xCB61, R182). -/
  | bit4C
  /-- `BIT 4,D` (0xCB62, R182). -/
  | bit4D
  /-- `BIT 4,E` (0xCB63, R182). -/
  | bit4E
  /-- `BIT 4,H` (0xCB64, R182). -/
  | bit4H
  /-- `BIT 4,L` (0xCB65, R182). -/
  | bit4L
  /-- `BIT 4,(HL)` (0xCB66, R182). -/
  | bit4IndHl
  /-- `BIT 4,A` (0xCB67, R182). -/
  | bit4A
  /-- `BIT 5,B` (0xCB68, R182). -/
  | bit5B
  /-- `BIT 5,C` (0xCB69, R182). -/
  | bit5C
  /-- `BIT 5,D` (0xCB6A, R182). -/
  | bit5D
  /-- `BIT 5,E` (0xCB6B, R182). -/
  | bit5E
  /-- `BIT 5,H` (0xCB6C, R182). -/
  | bit5H
  /-- `BIT 5,L` (0xCB6D, R182). -/
  | bit5L
  /-- `BIT 5,(HL)` (0xCB6E, R182). -/
  | bit5IndHl
  /-- `BIT 5,A` (0xCB6F, R182). -/
  | bit5A
  /-- `BIT 6,B` (0xCB70, R182). -/
  | bit6B
  /-- `BIT 6,C` (0xCB71, R182). -/
  | bit6C
  /-- `BIT 6,D` (0xCB72, R182). -/
  | bit6D
  /-- `BIT 6,E` (0xCB73, R182). -/
  | bit6E
  /-- `BIT 6,H` (0xCB74, R182). -/
  | bit6H
  /-- `BIT 6,L` (0xCB75, R182). -/
  | bit6L
  /-- `BIT 6,(HL)` (0xCB76, R182). -/
  | bit6IndHl
  /-- `BIT 6,A` (0xCB77, R182). -/
  | bit6A
  /-- `BIT 7,B` (0xCB78, R182). -/
  | bit7B
  /-- `BIT 7,C` (0xCB79, R182). -/
  | bit7C
  /-- `BIT 7,D` (0xCB7A, R182). -/
  | bit7D
  /-- `BIT 7,E` (0xCB7B, R182). -/
  | bit7E
  /-- `BIT 7,H` (0xCB7C, R182). -/
  | bit7H
  /-- `BIT 7,L` (0xCB7D, R182). -/
  | bit7L
  /-- `BIT 7,(HL)` (0xCB7E, R182). -/
  | bit7IndHl
  /-- `BIT 7,A` (0xCB7F, R182). -/
  | bit7A
  /-- `RES 0,B` (0xCB80, R183). -/
  | res0B
  /-- `RES 0,C` (0xCB81, R183). -/
  | res0C
  /-- `RES 0,D` (0xCB82, R183). -/
  | res0D
  /-- `RES 0,E` (0xCB83, R183). -/
  | res0E
  /-- `RES 0,H` (0xCB84, R183). -/
  | res0H
  /-- `RES 0,L` (0xCB85, R183). -/
  | res0L
  /-- `RES 0,(HL)` (0xCB86, R183). -/
  | res0IndHl
  /-- `RES 0,A` (0xCB87, R183). -/
  | res0A
  /-- `RES 1,B` (0xCB88, R183). -/
  | res1B
  /-- `RES 1,C` (0xCB89, R183). -/
  | res1C
  /-- `RES 1,D` (0xCB8A, R183). -/
  | res1D
  /-- `RES 1,E` (0xCB8B, R183). -/
  | res1E
  /-- `RES 1,H` (0xCB8C, R183). -/
  | res1H
  /-- `RES 1,L` (0xCB8D, R183). -/
  | res1L
  /-- `RES 1,(HL)` (0xCB8E, R183). -/
  | res1IndHl
  /-- `RES 1,A` (0xCB8F, R183). -/
  | res1A
  /-- `RES 2,B` (0xCB90, R183). -/
  | res2B
  /-- `RES 2,C` (0xCB91, R183). -/
  | res2C
  /-- `RES 2,D` (0xCB92, R183). -/
  | res2D
  /-- `RES 2,E` (0xCB93, R183). -/
  | res2E
  /-- `RES 2,H` (0xCB94, R183). -/
  | res2H
  /-- `RES 2,L` (0xCB95, R183). -/
  | res2L
  /-- `RES 2,(HL)` (0xCB96, R183). -/
  | res2IndHl
  /-- `RES 2,A` (0xCB97, R183). -/
  | res2A
  /-- `RES 3,B` (0xCB98, R183). -/
  | res3B
  /-- `RES 3,C` (0xCB99, R183). -/
  | res3C
  /-- `RES 3,D` (0xCB9A, R183). -/
  | res3D
  /-- `RES 3,E` (0xCB9B, R183). -/
  | res3E
  /-- `RES 3,H` (0xCB9C, R183). -/
  | res3H
  /-- `RES 3,L` (0xCB9D, R183). -/
  | res3L
  /-- `RES 3,(HL)` (0xCB9E, R183). -/
  | res3IndHl
  /-- `RES 3,A` (0xCB9F, R183). -/
  | res3A
  /-- `RES 4,B` (0xCBA0, R183). -/
  | res4B
  /-- `RES 4,C` (0xCBA1, R183). -/
  | res4C
  /-- `RES 4,D` (0xCBA2, R183). -/
  | res4D
  /-- `RES 4,E` (0xCBA3, R183). -/
  | res4E
  /-- `RES 4,H` (0xCBA4, R183). -/
  | res4H
  /-- `RES 4,L` (0xCBA5, R183). -/
  | res4L
  /-- `RES 4,(HL)` (0xCBA6, R183). -/
  | res4IndHl
  /-- `RES 4,A` (0xCBA7, R183). -/
  | res4A
  /-- `RES 5,B` (0xCBA8, R183). -/
  | res5B
  /-- `RES 5,C` (0xCBA9, R183). -/
  | res5C
  /-- `RES 5,D` (0xCBAA, R183). -/
  | res5D
  /-- `RES 5,E` (0xCBAB, R183). -/
  | res5E
  /-- `RES 5,H` (0xCBAC, R183). -/
  | res5H
  /-- `RES 5,L` (0xCBAD, R183). -/
  | res5L
  /-- `RES 5,(HL)` (0xCBAE, R183). -/
  | res5IndHl
  /-- `RES 5,A` (0xCBAF, R183). -/
  | res5A
  /-- `RES 6,B` (0xCBB0, R183). -/
  | res6B
  /-- `RES 6,C` (0xCBB1, R183). -/
  | res6C
  /-- `RES 6,D` (0xCBB2, R183). -/
  | res6D
  /-- `RES 6,E` (0xCBB3, R183). -/
  | res6E
  /-- `RES 6,H` (0xCBB4, R183). -/
  | res6H
  /-- `RES 6,L` (0xCBB5, R183). -/
  | res6L
  /-- `RES 6,(HL)` (0xCBB6, R183). -/
  | res6IndHl
  /-- `RES 6,A` (0xCBB7, R183). -/
  | res6A
  /-- `RES 7,B` (0xCBB8, R183). -/
  | res7B
  /-- `RES 7,C` (0xCBB9, R183). -/
  | res7C
  /-- `RES 7,D` (0xCBBA, R183). -/
  | res7D
  /-- `RES 7,E` (0xCBBB, R183). -/
  | res7E
  /-- `RES 7,H` (0xCBBC, R183). -/
  | res7H
  /-- `RES 7,L` (0xCBBD, R183). -/
  | res7L
  /-- `RES 7,(HL)` (0xCBBE, R183). -/
  | res7IndHl
  /-- `RES 7,A` (0xCBBF, R183). -/
  | res7A
  /-- `SET 0,B` (0xCBC0, R184). -/
  | set0B
  /-- `SET 0,C` (0xCBC1, R184). -/
  | set0C
  /-- `SET 0,D` (0xCBC2, R184). -/
  | set0D
  /-- `SET 0,E` (0xCBC3, R184). -/
  | set0E
  /-- `SET 0,H` (0xCBC4, R184). -/
  | set0H
  /-- `SET 0,L` (0xCBC5, R184). -/
  | set0L
  /-- `SET 0,(HL)` (0xCBC6, R184). -/
  | set0IndHl
  /-- `SET 0,A` (0xCBC7, R184). -/
  | set0A
  /-- `SET 1,B` (0xCBC8, R184). -/
  | set1B
  /-- `SET 1,C` (0xCBC9, R184). -/
  | set1C
  /-- `SET 1,D` (0xCBCA, R184). -/
  | set1D
  /-- `SET 1,E` (0xCBCB, R184). -/
  | set1E
  /-- `SET 1,H` (0xCBCC, R184). -/
  | set1H
  /-- `SET 1,L` (0xCBCD, R184). -/
  | set1L
  /-- `SET 1,(HL)` (0xCBCE, R184). -/
  | set1IndHl
  /-- `SET 1,A` (0xCBCF, R184). -/
  | set1A
  /-- `SET 2,B` (0xCBD0, R184). -/
  | set2B
  /-- `SET 2,C` (0xCBD1, R184). -/
  | set2C
  /-- `SET 2,D` (0xCBD2, R184). -/
  | set2D
  /-- `SET 2,E` (0xCBD3, R184). -/
  | set2E
  /-- `SET 2,H` (0xCBD4, R184). -/
  | set2H
  /-- `SET 2,L` (0xCBD5, R184). -/
  | set2L
  /-- `SET 2,(HL)` (0xCBD6, R184). -/
  | set2IndHl
  /-- `SET 2,A` (0xCBD7, R184). -/
  | set2A
  /-- `SET 3,B` (0xCBD8, R184). -/
  | set3B
  /-- `SET 3,C` (0xCBD9, R184). -/
  | set3C
  /-- `SET 3,D` (0xCBDA, R184). -/
  | set3D
  /-- `SET 3,E` (0xCBDB, R184). -/
  | set3E
  /-- `SET 3,H` (0xCBDC, R184). -/
  | set3H
  /-- `SET 3,L` (0xCBDD, R184). -/
  | set3L
  /-- `SET 3,(HL)` (0xCBDE, R184). -/
  | set3IndHl
  /-- `SET 3,A` (0xCBDF, R184). -/
  | set3A
  /-- `SET 4,B` (0xCBE0, R184). -/
  | set4B
  /-- `SET 4,C` (0xCBE1, R184). -/
  | set4C
  /-- `SET 4,D` (0xCBE2, R184). -/
  | set4D
  /-- `SET 4,E` (0xCBE3, R184). -/
  | set4E
  /-- `SET 4,H` (0xCBE4, R184). -/
  | set4H
  /-- `SET 4,L` (0xCBE5, R184). -/
  | set4L
  /-- `SET 4,(HL)` (0xCBE6, R184). -/
  | set4IndHl
  /-- `SET 4,A` (0xCBE7, R184). -/
  | set4A
  /-- `SET 5,B` (0xCBE8, R184). -/
  | set5B
  /-- `SET 5,C` (0xCBE9, R184). -/
  | set5C
  /-- `SET 5,D` (0xCBEA, R184). -/
  | set5D
  /-- `SET 5,E` (0xCBEB, R184). -/
  | set5E
  /-- `SET 5,H` (0xCBEC, R184). -/
  | set5H
  /-- `SET 5,L` (0xCBED, R184). -/
  | set5L
  /-- `SET 5,(HL)` (0xCBEE, R184). -/
  | set5IndHl
  /-- `SET 5,A` (0xCBEF, R184). -/
  | set5A
  /-- `SET 6,B` (0xCBF0, R184). -/
  | set6B
  /-- `SET 6,C` (0xCBF1, R184). -/
  | set6C
  /-- `SET 6,D` (0xCBF2, R184). -/
  | set6D
  /-- `SET 6,E` (0xCBF3, R184). -/
  | set6E
  /-- `SET 6,H` (0xCBF4, R184). -/
  | set6H
  /-- `SET 6,L` (0xCBF5, R184). -/
  | set6L
  /-- `SET 6,(HL)` (0xCBF6, R184). -/
  | set6IndHl
  /-- `SET 6,A` (0xCBF7, R184). -/
  | set6A
  /-- `SET 7,B` (0xCBF8, R184). -/
  | set7B
  /-- `SET 7,C` (0xCBF9, R184). -/
  | set7C
  /-- `SET 7,D` (0xCBFA, R184). -/
  | set7D
  /-- `SET 7,E` (0xCBFB, R184). -/
  | set7E
  /-- `SET 7,H` (0xCBFC, R184). -/
  | set7H
  /-- `SET 7,L` (0xCBFD, R184). -/
  | set7L
  /-- `SET 7,(HL)` (0xCBFE, R184). -/
  | set7IndHl
  /-- `SET 7,A` (0xCBFF, R184). -/
  | set7A
  deriving DecidableEq, Repr

end Sys2Proof
end

