-- ==== Sys2Proof/Machine/Flags.lean ====
section
/-! DEFINITION. Every result and flag computation of the arithmetic, logic, rotate, shift and bit instructions, as
functions of the operand values alone (spec/43_alu8.md, spec/44_alu16.md, spec/45_rotate_shift_bit.md, and the SP
offset forms of spec/42_load16_stack.md). Carries are comparisons of exact sums, as the rules write them. -/

namespace Sys2Proof.Machine

/-- The four flags of F (R18). -/
structure Flags where
  z : Bool
  n : Bool
  h : Bool
  c : Bool
  deriving DecidableEq, Repr

/-- A result byte with the flags the operation leaves. -/
structure ByteOut where
  val : Byte
  fl : Flags
  deriving DecidableEq, Repr

/-- A result word with the flags the operation leaves. -/
structure WordOut where
  val : Word
  fl : Flags
  deriving DecidableEq, Repr

namespace Flags

/-- The flags in the top nibble of F (R18). -/
def ofByte (f : Byte) : Flags where
  z := f.getLsbD 7
  n := f.getLsbD 6
  h := f.getLsbD 5
  c := f.getLsbD 4

/-- F with these flags: bits 7 to 4 are written, bits 3 to 0 stay (R17, R121). -/
def toByte (fl : Flags) (old : Byte) : Byte :=
  (((BitVec.ofBool fl.z ++ BitVec.ofBool fl.n) ++ BitVec.ofBool fl.h) ++ BitVec.ofBool fl.c) ++ old.extractLsb' 0 4

end Flags

/-- `v & 0x0F` as a number. -/
def lowNibble (v : Byte) : Nat := v.toNat % 16

/-- A carry-in as a number. -/
def carryNat (c : Bool) : Nat := if c then 1 else 0

/-! ## The eight ALU operations -/

/-- R149. -/
def add8 (a v : Byte) : ByteOut :=
  let t := a.toNat + v.toNat
  let r := BitVec.ofNat 8 t
  { val := r, fl := { z := decide (r = 0), n := false, h := decide (0x0F < lowNibble a + lowNibble v), c := decide (0xFF < t) } }

/-- R150. -/
def adc8 (a v : Byte) (c : Bool) : ByteOut :=
  let t := a.toNat + v.toNat + carryNat c
  let r := BitVec.ofNat 8 t
  { val := r, fl := { z := decide (r = 0), n := false, h := decide (0x0F < lowNibble a + lowNibble v + carryNat c), c := decide (0xFF < t) } }

/-- R151. -/
def sub8 (a v : Byte) : ByteOut :=
  let r := a - v
  { val := r, fl := { z := decide (r = 0), n := true, h := decide (lowNibble a < lowNibble v), c := decide (a.toNat < v.toNat) } }

/-- R152. -/
def sbc8 (a v : Byte) (c : Bool) : ByteOut :=
  let r := a - v - BitVec.ofNat 8 (carryNat c)
  { val := r, fl := { z := decide (r = 0), n := true, h := decide (lowNibble a < lowNibble v + carryNat c), c := decide (a.toNat < v.toNat + carryNat c) } }

/-- R153: the flags of R151, with A left unchanged. -/
def cp8 (a v : Byte) : ByteOut := { val := a, fl := (sub8 a v).fl }

/-- R154. -/
def and8 (a v : Byte) : ByteOut :=
  let r := a &&& v
  { val := r, fl := { z := decide (r = 0), n := false, h := true, c := false } }

/-- R155. -/
def xor8 (a v : Byte) : ByteOut :=
  let r := a ^^^ v
  { val := r, fl := { z := decide (r = 0), n := false, h := false, c := false } }

/-- R156. -/
def or8 (a v : Byte) : ByteOut :=
  let r := a ||| v
  { val := r, fl := { z := decide (r = 0), n := false, h := false, c := false } }

/-- The operation the ALU field selects (R100, R148), on A, the operand value and the carry read before. -/
def aluOut (op : AluOp) (a v : Byte) (c : Bool) : ByteOut :=
  match op with
  | .add => add8 a v
  | .adc => adc8 a v c
  | .sub => sub8 a v
  | .sbc => sbc8 a v c
  | .and => and8 a v
  | .xor => xor8 a v
  | .or => or8 a v
  | .cp => cp8 a v

/-! ## Increment, decrement and the accumulator adjustments -/

/-- R157, R158: the carry stays. -/
def inc8 (old : Byte) (f : Flags) : ByteOut :=
  let r := old + 1
  { val := r, fl := { z := decide (r = 0), n := false, h := decide (lowNibble old = 0x0F), c := f.c } }

/-- R159, R160: the carry stays. -/
def dec8 (old : Byte) (f : Flags) : ByteOut :=
  let r := old - 1
  { val := r, fl := { z := decide (r = 0), n := true, h := decide (lowNibble old = 0x00), c := f.c } }

/-- R161, the branch after an addition (N = 0): the high adjustment, which sets the carry, then the low one. -/
def daaAdd (a : Byte) (f : Flags) : Byte × Bool :=
  let high := f.c || decide (0x99 < a.toNat)
  let a1 := if high then a + 0x60 else a
  let a2 := if f.h || decide (0x09 < lowNibble a1) then a1 + 0x06 else a1
  (a2, high)

/-- R161, the branch after a subtraction (N = 1): the carry never changes. -/
def daaSub (a : Byte) (f : Flags) : Byte × Bool :=
  let a1 := if f.c then a - 0x60 else a
  let a2 := if f.h then a1 - 0x06 else a1
  (a2, f.c)

/-- R161. -/
def daa8 (a : Byte) (f : Flags) : ByteOut :=
  let r := if f.n then daaSub a f else daaAdd a f
  { val := r.1, fl := { z := decide (r.1 = 0), n := f.n, h := false, c := r.2 } }

/-- R162. -/
def cpl8 (a : Byte) (f : Flags) : ByteOut := { val := a ^^^ 0xFF, fl := { f with n := true, h := true } }

/-- R163. -/
def scfFlags (f : Flags) : Flags := { f with n := false, h := false, c := true }

/-- R164. -/
def ccfFlags (f : Flags) : Flags := { f with n := false, h := false, c := !f.c }

/-! ## 16-bit arithmetic -/

/-- R165: H is the carry out of bit 11, C out of bit 15, and Z stays. -/
def addHl16 (hl v : Word) (f : Flags) : WordOut :=
  let t := hl.toNat + v.toNat
  { val := BitVec.ofNat 16 t, fl := { z := f.z, n := false, h := decide (0x0FFF < hl.toNat % 0x1000 + v.toNat % 0x1000), c := decide (0xFFFF < t) } }

/-- R144, R168: the signed sum, with H and C the carries out of bits 3 and 7 of the unsigned low-byte addition. -/
def addSp16 (sp : Word) (e : Byte) : WordOut :=
  { val := sp + e.signExtend 16,
    fl := { z := false, n := false, h := decide (0x0F < sp.toNat % 16 + lowNibble e), c := decide (0xFF < sp.toNat % 256 + e.toNat) } }

/-! ## Rotates, shifts and bits -/

/-- The result byte of a rotate or shift and the bit it moves out (R174 to R181; R169 to R172 for A); SWAP moves none
out and clears C (R180). `c` is the carry before. -/
def shiftVal (op : ShiftOp) (v : Byte) (c : Bool) : Byte × Bool :=
  match op with
  | .rlc => (v.extractLsb' 0 7 ++ BitVec.ofBool (v.getLsbD 7), v.getLsbD 7)
  | .rrc => (BitVec.ofBool (v.getLsbD 0) ++ v.extractLsb' 1 7, v.getLsbD 0)
  | .rl => (v.extractLsb' 0 7 ++ BitVec.ofBool c, v.getLsbD 7)
  | .rr => (BitVec.ofBool c ++ v.extractLsb' 1 7, v.getLsbD 0)
  | .sla => (v.extractLsb' 0 7 ++ 0#1, v.getLsbD 7)
  | .sra => (BitVec.ofBool (v.getLsbD 7) ++ v.extractLsb' 1 7, v.getLsbD 0)
  | .swap => (v.extractLsb' 0 4 ++ v.extractLsb' 4 4, false)
  | .srl => (0#1 ++ v.extractLsb' 1 7, v.getLsbD 0)

/-- A CB rotate or shift: Z from the result, N and H cleared (R174 to R181). -/
def shift8 (op : ShiftOp) (v : Byte) (c : Bool) : ByteOut :=
  let r := shiftVal op v c
  { val := r.1, fl := { z := decide (r.1 = 0), n := false, h := false, c := r.2 } }

/-- An accumulator rotate: like the CB form, but Z is always cleared (R169 to R172). -/
def rotateA8 (op : ShiftOp) (a : Byte) (c : Bool) : ByteOut :=
  let r := shiftVal op a c
  { val := r.1, fl := { z := false, n := false, h := false, c := r.2 } }

/-- R182: Z is the complement of the bit, H is set, and the carry stays. -/
def bitFlags (b : Fin 8) (v : Byte) (f : Flags) : Flags :=
  { z := !v.getLsbD b.val, n := false, h := true, c := f.c }

/-- R183. -/
def res8 (b : Fin 8) (v : Byte) : Byte := v &&& ~~~((1 : Byte) <<< b.val)

/-- R184. -/
def set8 (b : Fin 8) (v : Byte) : Byte := v ||| ((1 : Byte) <<< b.val)

/-! ## Conditions -/

/-- `cond(cc)` (R99). -/
def condHolds (cc : Cond) (f : Flags) : Bool :=
  match cc with
  | .nz => !f.z
  | .z => f.z
  | .nc => !f.c
  | .c => f.c

end Sys2Proof.Machine
end

