-- ==== Sys2Proof/Machine/Ops.lean ====
section
/-! DEFINITION. The named operations over registers and memory that the meanings are written with: register and pair
access (spec/10_state.md R15 to R18), byte and word accesses on the bus (spec/20_memory.md R81, R82), the cycle charge
(spec/40_execution_engine.md R118), fetching bytes (R116), and taking an interrupt with the return from one
(spec/60_exceptions.md R209, R212). -/

namespace Sys2Proof.Machine

/-- What a meaning answers. -/
abbrev Out := Host.Outcome State Fault Refusal

/-- Go on from a next state with `g`; a fault or a refusal stays. -/
def onNext (g : State → State) (o : Out) : Out :=
  match o with
  | .next s => .next (g s)
  | .fault f => .fault f
  | .refused r => .refused r

/-! ## Registers -/

namespace Cpu

/-- `AF`, `BC`, `DE`, `HL`: the first-named register is the high byte (R16). -/
def af (c : Cpu) : Word := Word.ofBytes c.a c.f

@[inherit_doc af] def bc (c : Cpu) : Word := Word.ofBytes c.b c.c

@[inherit_doc af] def de (c : Cpu) : Word := Word.ofBytes c.d c.e

@[inherit_doc af] def hl (c : Cpu) : Word := Word.ofBytes c.h c.l

/-- `reg[r]` for a register (R97). -/
def reg (c : Cpu) (r : Reg8) : Byte :=
  match r with
  | .a => c.a
  | .b => c.b
  | .c => c.c
  | .d => c.d
  | .e => c.e
  | .h => c.h
  | .l => c.l

/-- `reg[r] <- v` for a register (R97). -/
def setReg (c : Cpu) (r : Reg8) (v : Byte) : Cpu :=
  match r with
  | .a => { c with a := v }
  | .b => { c with b := v }
  | .c => { c with c := v }
  | .d => { c with d := v }
  | .e => { c with e := v }
  | .h => { c with h := v }
  | .l => { c with l := v }

/-- The pair `rr` (R98). -/
def pair (c : Cpu) (p : RegPair) : Word :=
  match p with
  | .bc => c.bc
  | .de => c.de
  | .hl => c.hl
  | .sp => c.sp

/-- Writing a pair writes both halves (R16, R98). -/
def setPair (c : Cpu) (p : RegPair) (v : Word) : Cpu :=
  match p with
  | .bc => { c with b := v.hi, c := v.lo }
  | .de => { c with d := v.hi, e := v.lo }
  | .hl => { c with h := v.hi, l := v.lo }
  | .sp => { c with sp := v }

/-- The pair `qq` (R98). -/
def stackPair (c : Cpu) (q : StackPair) : Word :=
  match q with
  | .bc => c.bc
  | .de => c.de
  | .hl => c.hl
  | .af => c.af

/-- Writing the pair `qq`: into F only the top nibble goes (R17, R147). -/
def setStackPair (c : Cpu) (q : StackPair) (v : Word) : Cpu :=
  match q with
  | .bc => { c with b := v.hi, c := v.lo }
  | .de => { c with d := v.hi, e := v.lo }
  | .hl => { c with h := v.hi, l := v.lo }
  | .af => { c with a := v.hi, f := v.lo &&& 0xF0 }

/-- The flags (R18). -/
def flags (c : Cpu) : Flags := Flags.ofByte c.f

/-- Writing the flags (R18, R121). -/
def setFlags (c : Cpu) (fl : Flags) : Cpu := { c with f := fl.toByte c.f }

end Cpu

/-- Update the CPU alone. -/
def State.onCpu (s : State) (g : Cpu → Cpu) : State := { s with cpu := g s.cpu }

/-- `cycles += n` (R13, R118). -/
def State.charge (s : State) (n : Nat) : State := { s with cycles := s.cycles + n }

/-- The instruction completes: charge its cost. -/
def finish (n : Nat) (s : State) : Out := .next (s.charge n)

/-! ## Bus accesses in sequence -/

/-- Read one byte and go on with it; a bus fault ends the step (R79). -/
def withRead (addr : Word) (s : State) (k : Byte → Out) : Out :=
  match busRead addr s with
  | .ok v => k v
  | .error f => .fault f

/-- Write one byte and go on; a bus fault ends the step (R79). -/
def withWrite (addr : Word) (v : Byte) (s : State) (k : State → Out) : Out :=
  match busWrite addr v s with
  | .ok s' => k s'
  | .error f => .fault f

/-- `MemWrite(addr, 2, v)`: low byte first, addresses wrapping (R81). -/
def withWrite16 (addr : Word) (v : Word) (s : State) (k : State → Out) : Out :=
  withWrite addr v.lo s fun s => withWrite (addr + 1) v.hi s k

/-- `push16(v)`: each write after a decrement of SP, the high byte first (R82). -/
def push16 (v : Word) (s : State) (k : State → Out) : Out :=
  let s1 := s.onCpu fun c => { c with sp := c.sp - 1 }
  withWrite s1.cpu.sp v.hi s1 fun s2 =>
    let s3 := s2.onCpu fun c => { c with sp := c.sp - 1 }
    withWrite s3.cpu.sp v.lo s3 k

/-- `pop16()`: each read before an increment of SP, the low byte first (R82). -/
def pop16 (s : State) (k : Word → State → Out) : Out :=
  withRead s.cpu.sp s fun lo =>
    let s1 := s.onCpu fun c => { c with sp := c.sp + 1 }
    withRead s1.cpu.sp s1 fun hi =>
      k (Word.ofBytes hi lo) (s1.onCpu fun c => { c with sp := c.sp + 1 })

/-- `PC <- target` (R13). -/
def State.jump (s : State) (target : Word) : State := s.onCpu fun c => { c with pc := target }

/-! ## Fetch -/

/-- `fetch8()`: the byte at PC, then PC + 1, wrapping (R116). -/
def fetch8 (s : State) (k : Byte → State → Out) : Out :=
  withRead s.cpu.pc s fun v => k v (s.onCpu fun c => { c with pc := c.pc + 1 })

/-- `fetch16()`: two `fetch8()`s, the low byte first (R116). -/
def fetch16 (s : State) (k : Word → State → Out) : Out :=
  fetch8 s fun lo s => fetch8 s fun hi s => k (Word.ofBytes hi lo) s

/-! ## Taking an interrupt, and the return from one -/

/-- The lowest set bit among bits 0 to 4 of the pending byte (R205); 4 if no lower one is set. -/
def lowestPending (pending : Byte) : Nat :=
  if pending.getLsbD 0 then 0
  else if pending.getLsbD 1 then 1
  else if pending.getLsbD 2 then 2
  else if pending.getLsbD 3 then 3
  else 4

/-- The vector of interrupt `k` (R203). -/
def interruptVector (k : Nat) : Word := BitVec.ofNat 16 (0x0040 + 8 * k)

/-- Take interrupt `k` (R209), in the order of the rule: clear IME, clear IF[k], charge the dispatch cost, push PC, set
PC to the vector. The vector is fixed before the push. -/
def takeInterrupt (k : Nat) (s : State) (cont : State → Out) : Out :=
  let s1 := s.onCpu fun c => { c with ime := false }
  let s2 := { s1 with irq := s1.irq.acknowledge k }
  push16 s2.cpu.pc (s2.charge s2.settings.intDispatchCycles) fun s3 =>
    cont (s3.jump (interruptVector k))

/-- The return from an interrupt handler: PC from the stack, and IME set at once (R194, R212). -/
def returnFromInterrupt (s : State) (cont : State → Out) : Out :=
  pop16 s fun pc s => cont ((s.jump pc).onCpu fun c => { c with ime := true })

end Sys2Proof.Machine
end

