-- ==== Sys2Proof/Machine/Operands.lean ====
section
/-! DEFINITION. The operand forms: a register or the byte at HL, read, written, or read and written back
(spec/30_encoding.md R97, spec/45_rotate_shift_bit.md R173), the ALU operand (spec/43_alu8.md R148), and the I/O-page
addresses (spec/30_encoding.md R102). -/

namespace Sys2Proof.Machine

/-- Read `reg[r]`, a bus access when `r` is `(HL)` (R97). -/
def readLoc (x : Loc) (s : State) (k : Byte → Out) : Out :=
  match x with
  | .reg r => k (s.cpu.reg r)
  | .atHl => withRead s.cpu.hl s k

/-- Write `reg[r]`, a bus access when `r` is `(HL)` (R97). -/
def writeLoc (x : Loc) (v : Byte) (s : State) (k : State → Out) : Out :=
  match x with
  | .reg r => k (s.onCpu fun c => c.setReg r v)
  | .atHl => withWrite s.cpu.hl v s k

/-- Read a location, compute, and write the result back (R90, R173). -/
def modifyLoc (x : Loc) (g : Byte → Byte) (s : State) (k : Byte → State → Out) : Out :=
  readLoc x s fun v => writeLoc x (g v) s (k v)

/-- The operand value of an ALU operation (R148). -/
def aluOperand (src : AluSrc) (s : State) (k : Byte → Out) : Out :=
  match src with
  | .loc x => readLoc x s k
  | .imm n => k n

/-- `0xFF00 + zext_16(v)` (R102). -/
def ioPage (v : Byte) : Word := 0xFF00 + v.setWidth 16

end Sys2Proof.Machine
end

