-- ==== Sys2Proof/Machine/Alu16.lean ====
section
/-! DEFINITION. 16-bit arithmetic (spec/44_alu16.md R165 to R168). The shared forms stand first, then one
meaning per opcode. -/

namespace Sys2Proof.Machine

/-- `HL <- HL + rr` with N, H and C written and Z kept, 8 cycles (R165). -/
def addHlPair (p : RegPair) (s : State) : Out :=
  finish 8 (s.onCpu fun c =>
    let r := addHl16 c.hl (c.pair p) c.flags
    (c.setPair .hl r.val).setFlags r.fl)

/-- `rr <- rr + delta`, wrapping, no flag, 8 cycles (R166, R167). -/
def stepPair (p : RegPair) (delta : Word) (s : State) : Out :=
  finish 8 (s.onCpu fun c => c.setPair p (c.pair p + delta))

/-- `SP <- SP + sext_16(e)` with the flags of the unsigned low-byte addition, 16 cycles (R168). -/
def addSpOffset (e : Byte) (s : State) : Out :=
  finish 16 (s.onCpu fun c =>
    let r := addSp16 c.sp e
    { c with sp := r.val }.setFlags r.fl)

/-- `ADD SP,e` (R168). -/
def execAddSpE (e : Byte) (s : State) : Out := addSpOffset e s

/-- `INC BC` (R166). -/
def execIncBc (s : State) : Out := stepPair .bc 1 s

/-- `ADD HL,BC` (R165). -/
def execAddHlBc (s : State) : Out := addHlPair .bc s

/-- `DEC BC` (R167). -/
def execDecBc (s : State) : Out := stepPair .bc (-1) s

/-- `INC DE` (R166). -/
def execIncDe (s : State) : Out := stepPair .de 1 s

/-- `ADD HL,DE` (R165). -/
def execAddHlDe (s : State) : Out := addHlPair .de s

/-- `DEC DE` (R167). -/
def execDecDe (s : State) : Out := stepPair .de (-1) s

/-- `INC HL` (R166). -/
def execIncHl (s : State) : Out := stepPair .hl 1 s

/-- `ADD HL,HL` (R165). -/
def execAddHlHl (s : State) : Out := addHlPair .hl s

/-- `DEC HL` (R167). -/
def execDecHl (s : State) : Out := stepPair .hl (-1) s

/-- `INC SP` (R166). -/
def execIncSp (s : State) : Out := stepPair .sp 1 s

/-- `ADD HL,SP` (R165). -/
def execAddHlSp (s : State) : Out := addHlPair .sp s

/-- `DEC SP` (R167). -/
def execDecSp (s : State) : Out := stepPair .sp (-1) s

end Sys2Proof.Machine
end

