-- ==== Sys2Proof/Machine/Alu8.lean ====
section
/-! DEFINITION. 8-bit arithmetic and logic (spec/43_alu8.md R148 to R164). The shared forms stand first,
then one meaning per opcode. -/

namespace Sys2Proof.Machine

/-- `A <- A op v` with the operation's flags, for each operand form (R148 to R156). -/
def aluAcc (op : AluOp) (src : AluSrc) (cost : Nat) (s : State) : Out :=
  aluOperand src s fun v =>
    finish cost (s.onCpu fun c =>
      let r := aluOut op c.a v c.flags.c
      { c with a := r.val }.setFlags r.fl)

/-- `INC` of a register or of the byte at HL (R157, R158). -/
def incLoc (x : Loc) (cost : Nat) (s : State) : Out :=
  modifyLoc x (fun old => (inc8 old s.cpu.flags).val) s fun old s =>
    finish cost (s.onCpu fun c => c.setFlags (inc8 old c.flags).fl)

/-- `DEC` of a register or of the byte at HL (R159, R160). -/
def decLoc (x : Loc) (cost : Nat) (s : State) : Out :=
  modifyLoc x (fun old => (dec8 old s.cpu.flags).val) s fun old s =>
    finish cost (s.onCpu fun c => c.setFlags (dec8 old c.flags).fl)

/-- An adjustment of A from A and the flags, 4 cycles (R161, R162). -/
def onAcc (g : Byte → Flags → ByteOut) (s : State) : Out :=
  finish 4 (s.onCpu fun c =>
    let r := g c.a c.flags
    { c with a := r.val }.setFlags r.fl)

/-- `ADD A,n` (R149). -/
def execAddAN (n : Byte) (s : State) : Out := aluAcc .add (.imm n) 8 s

/-- `ADC A,n` (R150). -/
def execAdcAN (n : Byte) (s : State) : Out := aluAcc .adc (.imm n) 8 s

/-- `SUB A,n` (R151). -/
def execSubAN (n : Byte) (s : State) : Out := aluAcc .sub (.imm n) 8 s

/-- `SBC A,n` (R152). -/
def execSbcAN (n : Byte) (s : State) : Out := aluAcc .sbc (.imm n) 8 s

/-- `AND A,n` (R154). -/
def execAndAN (n : Byte) (s : State) : Out := aluAcc .and (.imm n) 8 s

/-- `XOR A,n` (R155). -/
def execXorAN (n : Byte) (s : State) : Out := aluAcc .xor (.imm n) 8 s

/-- `OR A,n` (R156). -/
def execOrAN (n : Byte) (s : State) : Out := aluAcc .or (.imm n) 8 s

/-- `CP A,n` (R153). -/
def execCpAN (n : Byte) (s : State) : Out := aluAcc .cp (.imm n) 8 s

/-- `INC B` (R157). -/
def execIncB (s : State) : Out := incLoc (.reg .b) 4 s

/-- `DEC B` (R159). -/
def execDecB (s : State) : Out := decLoc (.reg .b) 4 s

/-- `INC C` (R157). -/
def execIncC (s : State) : Out := incLoc (.reg .c) 4 s

/-- `DEC C` (R159). -/
def execDecC (s : State) : Out := decLoc (.reg .c) 4 s

/-- `INC D` (R157). -/
def execIncD (s : State) : Out := incLoc (.reg .d) 4 s

/-- `DEC D` (R159). -/
def execDecD (s : State) : Out := decLoc (.reg .d) 4 s

/-- `INC E` (R157). -/
def execIncE (s : State) : Out := incLoc (.reg .e) 4 s

/-- `DEC E` (R159). -/
def execDecE (s : State) : Out := decLoc (.reg .e) 4 s

/-- `INC H` (R157). -/
def execIncH (s : State) : Out := incLoc (.reg .h) 4 s

/-- `DEC H` (R159). -/
def execDecH (s : State) : Out := decLoc (.reg .h) 4 s

/-- `DAA` (R161). -/
def execDaa (s : State) : Out := onAcc daa8 s

/-- `INC L` (R157). -/
def execIncL (s : State) : Out := incLoc (.reg .l) 4 s

/-- `DEC L` (R159). -/
def execDecL (s : State) : Out := decLoc (.reg .l) 4 s

/-- `CPL` (R162). -/
def execCpl (s : State) : Out := onAcc cpl8 s

/-- `INC (HL)` (R158). -/
def execIncIndHl (s : State) : Out := incLoc .atHl 12 s

/-- `DEC (HL)` (R160). -/
def execDecIndHl (s : State) : Out := decLoc .atHl 12 s

/-- `SCF` (R163). -/
def execScf (s : State) : Out := finish 4 (s.onCpu fun c => c.setFlags (scfFlags c.flags))

/-- `INC A` (R157). -/
def execIncA (s : State) : Out := incLoc (.reg .a) 4 s

/-- `DEC A` (R159). -/
def execDecA (s : State) : Out := decLoc (.reg .a) 4 s

/-- `CCF` (R164). -/
def execCcf (s : State) : Out := finish 4 (s.onCpu fun c => c.setFlags (ccfFlags c.flags))

/-- `ADD A,B` (R149). -/
def execAddAB (s : State) : Out := aluAcc .add (.loc (.reg .b)) 4 s

/-- `ADD A,C` (R149). -/
def execAddAC (s : State) : Out := aluAcc .add (.loc (.reg .c)) 4 s

/-- `ADD A,D` (R149). -/
def execAddAD (s : State) : Out := aluAcc .add (.loc (.reg .d)) 4 s

/-- `ADD A,E` (R149). -/
def execAddAE (s : State) : Out := aluAcc .add (.loc (.reg .e)) 4 s

/-- `ADD A,H` (R149). -/
def execAddAH (s : State) : Out := aluAcc .add (.loc (.reg .h)) 4 s

/-- `ADD A,L` (R149). -/
def execAddAL (s : State) : Out := aluAcc .add (.loc (.reg .l)) 4 s

/-- `ADD A,(HL)` (R149). -/
def execAddAIndHl (s : State) : Out := aluAcc .add (.loc .atHl) 8 s

/-- `ADD A,A` (R149). -/
def execAddAA (s : State) : Out := aluAcc .add (.loc (.reg .a)) 4 s

/-- `ADC A,B` (R150). -/
def execAdcAB (s : State) : Out := aluAcc .adc (.loc (.reg .b)) 4 s

/-- `ADC A,C` (R150). -/
def execAdcAC (s : State) : Out := aluAcc .adc (.loc (.reg .c)) 4 s

/-- `ADC A,D` (R150). -/
def execAdcAD (s : State) : Out := aluAcc .adc (.loc (.reg .d)) 4 s

/-- `ADC A,E` (R150). -/
def execAdcAE (s : State) : Out := aluAcc .adc (.loc (.reg .e)) 4 s

/-- `ADC A,H` (R150). -/
def execAdcAH (s : State) : Out := aluAcc .adc (.loc (.reg .h)) 4 s

/-- `ADC A,L` (R150). -/
def execAdcAL (s : State) : Out := aluAcc .adc (.loc (.reg .l)) 4 s

/-- `ADC A,(HL)` (R150). -/
def execAdcAIndHl (s : State) : Out := aluAcc .adc (.loc .atHl) 8 s

/-- `ADC A,A` (R150). -/
def execAdcAA (s : State) : Out := aluAcc .adc (.loc (.reg .a)) 4 s

/-- `SUB A,B` (R151). -/
def execSubAB (s : State) : Out := aluAcc .sub (.loc (.reg .b)) 4 s

/-- `SUB A,C` (R151). -/
def execSubAC (s : State) : Out := aluAcc .sub (.loc (.reg .c)) 4 s

/-- `SUB A,D` (R151). -/
def execSubAD (s : State) : Out := aluAcc .sub (.loc (.reg .d)) 4 s

/-- `SUB A,E` (R151). -/
def execSubAE (s : State) : Out := aluAcc .sub (.loc (.reg .e)) 4 s

/-- `SUB A,H` (R151). -/
def execSubAH (s : State) : Out := aluAcc .sub (.loc (.reg .h)) 4 s

/-- `SUB A,L` (R151). -/
def execSubAL (s : State) : Out := aluAcc .sub (.loc (.reg .l)) 4 s

/-- `SUB A,(HL)` (R151). -/
def execSubAIndHl (s : State) : Out := aluAcc .sub (.loc .atHl) 8 s

/-- `SUB A,A` (R151). -/
def execSubAA (s : State) : Out := aluAcc .sub (.loc (.reg .a)) 4 s

/-- `SBC A,B` (R152). -/
def execSbcAB (s : State) : Out := aluAcc .sbc (.loc (.reg .b)) 4 s

/-- `SBC A,C` (R152). -/
def execSbcAC (s : State) : Out := aluAcc .sbc (.loc (.reg .c)) 4 s

/-- `SBC A,D` (R152). -/
def execSbcAD (s : State) : Out := aluAcc .sbc (.loc (.reg .d)) 4 s

/-- `SBC A,E` (R152). -/
def execSbcAE (s : State) : Out := aluAcc .sbc (.loc (.reg .e)) 4 s

/-- `SBC A,H` (R152). -/
def execSbcAH (s : State) : Out := aluAcc .sbc (.loc (.reg .h)) 4 s

/-- `SBC A,L` (R152). -/
def execSbcAL (s : State) : Out := aluAcc .sbc (.loc (.reg .l)) 4 s

/-- `SBC A,(HL)` (R152). -/
def execSbcAIndHl (s : State) : Out := aluAcc .sbc (.loc .atHl) 8 s

/-- `SBC A,A` (R152). -/
def execSbcAA (s : State) : Out := aluAcc .sbc (.loc (.reg .a)) 4 s

/-- `AND A,B` (R154). -/
def execAndAB (s : State) : Out := aluAcc .and (.loc (.reg .b)) 4 s

/-- `AND A,C` (R154). -/
def execAndAC (s : State) : Out := aluAcc .and (.loc (.reg .c)) 4 s

/-- `AND A,D` (R154). -/
def execAndAD (s : State) : Out := aluAcc .and (.loc (.reg .d)) 4 s

/-- `AND A,E` (R154). -/
def execAndAE (s : State) : Out := aluAcc .and (.loc (.reg .e)) 4 s

/-- `AND A,H` (R154). -/
def execAndAH (s : State) : Out := aluAcc .and (.loc (.reg .h)) 4 s

/-- `AND A,L` (R154). -/
def execAndAL (s : State) : Out := aluAcc .and (.loc (.reg .l)) 4 s

/-- `AND A,(HL)` (R154). -/
def execAndAIndHl (s : State) : Out := aluAcc .and (.loc .atHl) 8 s

/-- `AND A,A` (R154). -/
def execAndAA (s : State) : Out := aluAcc .and (.loc (.reg .a)) 4 s

/-- `XOR A,B` (R155). -/
def execXorAB (s : State) : Out := aluAcc .xor (.loc (.reg .b)) 4 s

/-- `XOR A,C` (R155). -/
def execXorAC (s : State) : Out := aluAcc .xor (.loc (.reg .c)) 4 s

/-- `XOR A,D` (R155). -/
def execXorAD (s : State) : Out := aluAcc .xor (.loc (.reg .d)) 4 s

/-- `XOR A,E` (R155). -/
def execXorAE (s : State) : Out := aluAcc .xor (.loc (.reg .e)) 4 s

/-- `XOR A,H` (R155). -/
def execXorAH (s : State) : Out := aluAcc .xor (.loc (.reg .h)) 4 s

/-- `XOR A,L` (R155). -/
def execXorAL (s : State) : Out := aluAcc .xor (.loc (.reg .l)) 4 s

/-- `XOR A,(HL)` (R155). -/
def execXorAIndHl (s : State) : Out := aluAcc .xor (.loc .atHl) 8 s

/-- `XOR A,A` (R155). -/
def execXorAA (s : State) : Out := aluAcc .xor (.loc (.reg .a)) 4 s

/-- `OR A,B` (R156). -/
def execOrAB (s : State) : Out := aluAcc .or (.loc (.reg .b)) 4 s

/-- `OR A,C` (R156). -/
def execOrAC (s : State) : Out := aluAcc .or (.loc (.reg .c)) 4 s

/-- `OR A,D` (R156). -/
def execOrAD (s : State) : Out := aluAcc .or (.loc (.reg .d)) 4 s

/-- `OR A,E` (R156). -/
def execOrAE (s : State) : Out := aluAcc .or (.loc (.reg .e)) 4 s

/-- `OR A,H` (R156). -/
def execOrAH (s : State) : Out := aluAcc .or (.loc (.reg .h)) 4 s

/-- `OR A,L` (R156). -/
def execOrAL (s : State) : Out := aluAcc .or (.loc (.reg .l)) 4 s

/-- `OR A,(HL)` (R156). -/
def execOrAIndHl (s : State) : Out := aluAcc .or (.loc .atHl) 8 s

/-- `OR A,A` (R156). -/
def execOrAA (s : State) : Out := aluAcc .or (.loc (.reg .a)) 4 s

/-- `CP A,B` (R153). -/
def execCpAB (s : State) : Out := aluAcc .cp (.loc (.reg .b)) 4 s

/-- `CP A,C` (R153). -/
def execCpAC (s : State) : Out := aluAcc .cp (.loc (.reg .c)) 4 s

/-- `CP A,D` (R153). -/
def execCpAD (s : State) : Out := aluAcc .cp (.loc (.reg .d)) 4 s

/-- `CP A,E` (R153). -/
def execCpAE (s : State) : Out := aluAcc .cp (.loc (.reg .e)) 4 s

/-- `CP A,H` (R153). -/
def execCpAH (s : State) : Out := aluAcc .cp (.loc (.reg .h)) 4 s

/-- `CP A,L` (R153). -/
def execCpAL (s : State) : Out := aluAcc .cp (.loc (.reg .l)) 4 s

/-- `CP A,(HL)` (R153). -/
def execCpAIndHl (s : State) : Out := aluAcc .cp (.loc .atHl) 8 s

/-- `CP A,A` (R153). -/
def execCpAA (s : State) : Out := aluAcc .cp (.loc (.reg .a)) 4 s

end Sys2Proof.Machine
end

