-- ==== Sys2Proof/Machine/Bits.lean ====
section
/-! DEFINITION. The single-bit operations BIT, RES and SET (spec/45_rotate_shift_bit.md R182 to R184). The
shared forms stand first, then one meaning per opcode. -/

namespace Sys2Proof.Machine

/-- `BIT b,r`: a read, no write (R182). -/
def bitLoc (b : Fin 8) (x : Loc) (cost : Nat) (s : State) : Out :=
  readLoc x s fun v => finish cost (s.onCpu fun c => c.setFlags (bitFlags b v c.flags))

/-- `RES b,r`: for `(HL)` the write happens whatever the bit was (R183). -/
def resLoc (b : Fin 8) (x : Loc) (cost : Nat) (s : State) : Out :=
  modifyLoc x (res8 b) s fun _ s => finish cost s

/-- `SET b,r` (R184). -/
def setLoc (b : Fin 8) (x : Loc) (cost : Nat) (s : State) : Out :=
  modifyLoc x (set8 b) s fun _ s => finish cost s

/-- `BIT 0,B` (R182). -/
def execBit0B (s : State) : Out := bitLoc 0 (.reg .b) 8 s

/-- `BIT 0,C` (R182). -/
def execBit0C (s : State) : Out := bitLoc 0 (.reg .c) 8 s

/-- `BIT 0,D` (R182). -/
def execBit0D (s : State) : Out := bitLoc 0 (.reg .d) 8 s

/-- `BIT 0,E` (R182). -/
def execBit0E (s : State) : Out := bitLoc 0 (.reg .e) 8 s

/-- `BIT 0,H` (R182). -/
def execBit0H (s : State) : Out := bitLoc 0 (.reg .h) 8 s

/-- `BIT 0,L` (R182). -/
def execBit0L (s : State) : Out := bitLoc 0 (.reg .l) 8 s

/-- `BIT 0,(HL)` (R182). -/
def execBit0IndHl (s : State) : Out := bitLoc 0 .atHl 12 s

/-- `BIT 0,A` (R182). -/
def execBit0A (s : State) : Out := bitLoc 0 (.reg .a) 8 s

/-- `BIT 1,B` (R182). -/
def execBit1B (s : State) : Out := bitLoc 1 (.reg .b) 8 s

/-- `BIT 1,C` (R182). -/
def execBit1C (s : State) : Out := bitLoc 1 (.reg .c) 8 s

/-- `BIT 1,D` (R182). -/
def execBit1D (s : State) : Out := bitLoc 1 (.reg .d) 8 s

/-- `BIT 1,E` (R182). -/
def execBit1E (s : State) : Out := bitLoc 1 (.reg .e) 8 s

/-- `BIT 1,H` (R182). -/
def execBit1H (s : State) : Out := bitLoc 1 (.reg .h) 8 s

/-- `BIT 1,L` (R182). -/
def execBit1L (s : State) : Out := bitLoc 1 (.reg .l) 8 s

/-- `BIT 1,(HL)` (R182). -/
def execBit1IndHl (s : State) : Out := bitLoc 1 .atHl 12 s

/-- `BIT 1,A` (R182). -/
def execBit1A (s : State) : Out := bitLoc 1 (.reg .a) 8 s

/-- `BIT 2,B` (R182). -/
def execBit2B (s : State) : Out := bitLoc 2 (.reg .b) 8 s

/-- `BIT 2,C` (R182). -/
def execBit2C (s : State) : Out := bitLoc 2 (.reg .c) 8 s

/-- `BIT 2,D` (R182). -/
def execBit2D (s : State) : Out := bitLoc 2 (.reg .d) 8 s

/-- `BIT 2,E` (R182). -/
def execBit2E (s : State) : Out := bitLoc 2 (.reg .e) 8 s

/-- `BIT 2,H` (R182). -/
def execBit2H (s : State) : Out := bitLoc 2 (.reg .h) 8 s

/-- `BIT 2,L` (R182). -/
def execBit2L (s : State) : Out := bitLoc 2 (.reg .l) 8 s

/-- `BIT 2,(HL)` (R182). -/
def execBit2IndHl (s : State) : Out := bitLoc 2 .atHl 12 s

/-- `BIT 2,A` (R182). -/
def execBit2A (s : State) : Out := bitLoc 2 (.reg .a) 8 s

/-- `BIT 3,B` (R182). -/
def execBit3B (s : State) : Out := bitLoc 3 (.reg .b) 8 s

/-- `BIT 3,C` (R182). -/
def execBit3C (s : State) : Out := bitLoc 3 (.reg .c) 8 s

/-- `BIT 3,D` (R182). -/
def execBit3D (s : State) : Out := bitLoc 3 (.reg .d) 8 s

/-- `BIT 3,E` (R182). -/
def execBit3E (s : State) : Out := bitLoc 3 (.reg .e) 8 s

/-- `BIT 3,H` (R182). -/
def execBit3H (s : State) : Out := bitLoc 3 (.reg .h) 8 s

/-- `BIT 3,L` (R182). -/
def execBit3L (s : State) : Out := bitLoc 3 (.reg .l) 8 s

/-- `BIT 3,(HL)` (R182). -/
def execBit3IndHl (s : State) : Out := bitLoc 3 .atHl 12 s

/-- `BIT 3,A` (R182). -/
def execBit3A (s : State) : Out := bitLoc 3 (.reg .a) 8 s

/-- `BIT 4,B` (R182). -/
def execBit4B (s : State) : Out := bitLoc 4 (.reg .b) 8 s

/-- `BIT 4,C` (R182). -/
def execBit4C (s : State) : Out := bitLoc 4 (.reg .c) 8 s

/-- `BIT 4,D` (R182). -/
def execBit4D (s : State) : Out := bitLoc 4 (.reg .d) 8 s

/-- `BIT 4,E` (R182). -/
def execBit4E (s : State) : Out := bitLoc 4 (.reg .e) 8 s

/-- `BIT 4,H` (R182). -/
def execBit4H (s : State) : Out := bitLoc 4 (.reg .h) 8 s

/-- `BIT 4,L` (R182). -/
def execBit4L (s : State) : Out := bitLoc 4 (.reg .l) 8 s

/-- `BIT 4,(HL)` (R182). -/
def execBit4IndHl (s : State) : Out := bitLoc 4 .atHl 12 s

/-- `BIT 4,A` (R182). -/
def execBit4A (s : State) : Out := bitLoc 4 (.reg .a) 8 s

/-- `BIT 5,B` (R182). -/
def execBit5B (s : State) : Out := bitLoc 5 (.reg .b) 8 s

/-- `BIT 5,C` (R182). -/
def execBit5C (s : State) : Out := bitLoc 5 (.reg .c) 8 s

/-- `BIT 5,D` (R182). -/
def execBit5D (s : State) : Out := bitLoc 5 (.reg .d) 8 s

/-- `BIT 5,E` (R182). -/
def execBit5E (s : State) : Out := bitLoc 5 (.reg .e) 8 s

/-- `BIT 5,H` (R182). -/
def execBit5H (s : State) : Out := bitLoc 5 (.reg .h) 8 s

/-- `BIT 5,L` (R182). -/
def execBit5L (s : State) : Out := bitLoc 5 (.reg .l) 8 s

/-- `BIT 5,(HL)` (R182). -/
def execBit5IndHl (s : State) : Out := bitLoc 5 .atHl 12 s

/-- `BIT 5,A` (R182). -/
def execBit5A (s : State) : Out := bitLoc 5 (.reg .a) 8 s

/-- `BIT 6,B` (R182). -/
def execBit6B (s : State) : Out := bitLoc 6 (.reg .b) 8 s

/-- `BIT 6,C` (R182). -/
def execBit6C (s : State) : Out := bitLoc 6 (.reg .c) 8 s

/-- `BIT 6,D` (R182). -/
def execBit6D (s : State) : Out := bitLoc 6 (.reg .d) 8 s

/-- `BIT 6,E` (R182). -/
def execBit6E (s : State) : Out := bitLoc 6 (.reg .e) 8 s

/-- `BIT 6,H` (R182). -/
def execBit6H (s : State) : Out := bitLoc 6 (.reg .h) 8 s

/-- `BIT 6,L` (R182). -/
def execBit6L (s : State) : Out := bitLoc 6 (.reg .l) 8 s

/-- `BIT 6,(HL)` (R182). -/
def execBit6IndHl (s : State) : Out := bitLoc 6 .atHl 12 s

/-- `BIT 6,A` (R182). -/
def execBit6A (s : State) : Out := bitLoc 6 (.reg .a) 8 s

/-- `BIT 7,B` (R182). -/
def execBit7B (s : State) : Out := bitLoc 7 (.reg .b) 8 s

/-- `BIT 7,C` (R182). -/
def execBit7C (s : State) : Out := bitLoc 7 (.reg .c) 8 s

/-- `BIT 7,D` (R182). -/
def execBit7D (s : State) : Out := bitLoc 7 (.reg .d) 8 s

/-- `BIT 7,E` (R182). -/
def execBit7E (s : State) : Out := bitLoc 7 (.reg .e) 8 s

/-- `BIT 7,H` (R182). -/
def execBit7H (s : State) : Out := bitLoc 7 (.reg .h) 8 s

/-- `BIT 7,L` (R182). -/
def execBit7L (s : State) : Out := bitLoc 7 (.reg .l) 8 s

/-- `BIT 7,(HL)` (R182). -/
def execBit7IndHl (s : State) : Out := bitLoc 7 .atHl 12 s

/-- `BIT 7,A` (R182). -/
def execBit7A (s : State) : Out := bitLoc 7 (.reg .a) 8 s

/-- `RES 0,B` (R183). -/
def execRes0B (s : State) : Out := resLoc 0 (.reg .b) 8 s

/-- `RES 0,C` (R183). -/
def execRes0C (s : State) : Out := resLoc 0 (.reg .c) 8 s

/-- `RES 0,D` (R183). -/
def execRes0D (s : State) : Out := resLoc 0 (.reg .d) 8 s

/-- `RES 0,E` (R183). -/
def execRes0E (s : State) : Out := resLoc 0 (.reg .e) 8 s

/-- `RES 0,H` (R183). -/
def execRes0H (s : State) : Out := resLoc 0 (.reg .h) 8 s

/-- `RES 0,L` (R183). -/
def execRes0L (s : State) : Out := resLoc 0 (.reg .l) 8 s

/-- `RES 0,(HL)` (R183). -/
def execRes0IndHl (s : State) : Out := resLoc 0 .atHl 16 s

/-- `RES 0,A` (R183). -/
def execRes0A (s : State) : Out := resLoc 0 (.reg .a) 8 s

/-- `RES 1,B` (R183). -/
def execRes1B (s : State) : Out := resLoc 1 (.reg .b) 8 s

/-- `RES 1,C` (R183). -/
def execRes1C (s : State) : Out := resLoc 1 (.reg .c) 8 s

/-- `RES 1,D` (R183). -/
def execRes1D (s : State) : Out := resLoc 1 (.reg .d) 8 s

/-- `RES 1,E` (R183). -/
def execRes1E (s : State) : Out := resLoc 1 (.reg .e) 8 s

/-- `RES 1,H` (R183). -/
def execRes1H (s : State) : Out := resLoc 1 (.reg .h) 8 s

/-- `RES 1,L` (R183). -/
def execRes1L (s : State) : Out := resLoc 1 (.reg .l) 8 s

/-- `RES 1,(HL)` (R183). -/
def execRes1IndHl (s : State) : Out := resLoc 1 .atHl 16 s

/-- `RES 1,A` (R183). -/
def execRes1A (s : State) : Out := resLoc 1 (.reg .a) 8 s

/-- `RES 2,B` (R183). -/
def execRes2B (s : State) : Out := resLoc 2 (.reg .b) 8 s

/-- `RES 2,C` (R183). -/
def execRes2C (s : State) : Out := resLoc 2 (.reg .c) 8 s

/-- `RES 2,D` (R183). -/
def execRes2D (s : State) : Out := resLoc 2 (.reg .d) 8 s

/-- `RES 2,E` (R183). -/
def execRes2E (s : State) : Out := resLoc 2 (.reg .e) 8 s

/-- `RES 2,H` (R183). -/
def execRes2H (s : State) : Out := resLoc 2 (.reg .h) 8 s

/-- `RES 2,L` (R183). -/
def execRes2L (s : State) : Out := resLoc 2 (.reg .l) 8 s

/-- `RES 2,(HL)` (R183). -/
def execRes2IndHl (s : State) : Out := resLoc 2 .atHl 16 s

/-- `RES 2,A` (R183). -/
def execRes2A (s : State) : Out := resLoc 2 (.reg .a) 8 s

/-- `RES 3,B` (R183). -/
def execRes3B (s : State) : Out := resLoc 3 (.reg .b) 8 s

/-- `RES 3,C` (R183). -/
def execRes3C (s : State) : Out := resLoc 3 (.reg .c) 8 s

/-- `RES 3,D` (R183). -/
def execRes3D (s : State) : Out := resLoc 3 (.reg .d) 8 s

/-- `RES 3,E` (R183). -/
def execRes3E (s : State) : Out := resLoc 3 (.reg .e) 8 s

/-- `RES 3,H` (R183). -/
def execRes3H (s : State) : Out := resLoc 3 (.reg .h) 8 s

/-- `RES 3,L` (R183). -/
def execRes3L (s : State) : Out := resLoc 3 (.reg .l) 8 s

/-- `RES 3,(HL)` (R183). -/
def execRes3IndHl (s : State) : Out := resLoc 3 .atHl 16 s

/-- `RES 3,A` (R183). -/
def execRes3A (s : State) : Out := resLoc 3 (.reg .a) 8 s

/-- `RES 4,B` (R183). -/
def execRes4B (s : State) : Out := resLoc 4 (.reg .b) 8 s

/-- `RES 4,C` (R183). -/
def execRes4C (s : State) : Out := resLoc 4 (.reg .c) 8 s

/-- `RES 4,D` (R183). -/
def execRes4D (s : State) : Out := resLoc 4 (.reg .d) 8 s

/-- `RES 4,E` (R183). -/
def execRes4E (s : State) : Out := resLoc 4 (.reg .e) 8 s

/-- `RES 4,H` (R183). -/
def execRes4H (s : State) : Out := resLoc 4 (.reg .h) 8 s

/-- `RES 4,L` (R183). -/
def execRes4L (s : State) : Out := resLoc 4 (.reg .l) 8 s

/-- `RES 4,(HL)` (R183). -/
def execRes4IndHl (s : State) : Out := resLoc 4 .atHl 16 s

/-- `RES 4,A` (R183). -/
def execRes4A (s : State) : Out := resLoc 4 (.reg .a) 8 s

/-- `RES 5,B` (R183). -/
def execRes5B (s : State) : Out := resLoc 5 (.reg .b) 8 s

/-- `RES 5,C` (R183). -/
def execRes5C (s : State) : Out := resLoc 5 (.reg .c) 8 s

/-- `RES 5,D` (R183). -/
def execRes5D (s : State) : Out := resLoc 5 (.reg .d) 8 s

/-- `RES 5,E` (R183). -/
def execRes5E (s : State) : Out := resLoc 5 (.reg .e) 8 s

/-- `RES 5,H` (R183). -/
def execRes5H (s : State) : Out := resLoc 5 (.reg .h) 8 s

/-- `RES 5,L` (R183). -/
def execRes5L (s : State) : Out := resLoc 5 (.reg .l) 8 s

/-- `RES 5,(HL)` (R183). -/
def execRes5IndHl (s : State) : Out := resLoc 5 .atHl 16 s

/-- `RES 5,A` (R183). -/
def execRes5A (s : State) : Out := resLoc 5 (.reg .a) 8 s

/-- `RES 6,B` (R183). -/
def execRes6B (s : State) : Out := resLoc 6 (.reg .b) 8 s

/-- `RES 6,C` (R183). -/
def execRes6C (s : State) : Out := resLoc 6 (.reg .c) 8 s

/-- `RES 6,D` (R183). -/
def execRes6D (s : State) : Out := resLoc 6 (.reg .d) 8 s

/-- `RES 6,E` (R183). -/
def execRes6E (s : State) : Out := resLoc 6 (.reg .e) 8 s

/-- `RES 6,H` (R183). -/
def execRes6H (s : State) : Out := resLoc 6 (.reg .h) 8 s

/-- `RES 6,L` (R183). -/
def execRes6L (s : State) : Out := resLoc 6 (.reg .l) 8 s

/-- `RES 6,(HL)` (R183). -/
def execRes6IndHl (s : State) : Out := resLoc 6 .atHl 16 s

/-- `RES 6,A` (R183). -/
def execRes6A (s : State) : Out := resLoc 6 (.reg .a) 8 s

/-- `RES 7,B` (R183). -/
def execRes7B (s : State) : Out := resLoc 7 (.reg .b) 8 s

/-- `RES 7,C` (R183). -/
def execRes7C (s : State) : Out := resLoc 7 (.reg .c) 8 s

/-- `RES 7,D` (R183). -/
def execRes7D (s : State) : Out := resLoc 7 (.reg .d) 8 s

/-- `RES 7,E` (R183). -/
def execRes7E (s : State) : Out := resLoc 7 (.reg .e) 8 s

/-- `RES 7,H` (R183). -/
def execRes7H (s : State) : Out := resLoc 7 (.reg .h) 8 s

/-- `RES 7,L` (R183). -/
def execRes7L (s : State) : Out := resLoc 7 (.reg .l) 8 s

/-- `RES 7,(HL)` (R183). -/
def execRes7IndHl (s : State) : Out := resLoc 7 .atHl 16 s

/-- `RES 7,A` (R183). -/
def execRes7A (s : State) : Out := resLoc 7 (.reg .a) 8 s

/-- `SET 0,B` (R184). -/
def execSet0B (s : State) : Out := setLoc 0 (.reg .b) 8 s

/-- `SET 0,C` (R184). -/
def execSet0C (s : State) : Out := setLoc 0 (.reg .c) 8 s

/-- `SET 0,D` (R184). -/
def execSet0D (s : State) : Out := setLoc 0 (.reg .d) 8 s

/-- `SET 0,E` (R184). -/
def execSet0E (s : State) : Out := setLoc 0 (.reg .e) 8 s

/-- `SET 0,H` (R184). -/
def execSet0H (s : State) : Out := setLoc 0 (.reg .h) 8 s

/-- `SET 0,L` (R184). -/
def execSet0L (s : State) : Out := setLoc 0 (.reg .l) 8 s

/-- `SET 0,(HL)` (R184). -/
def execSet0IndHl (s : State) : Out := setLoc 0 .atHl 16 s

/-- `SET 0,A` (R184). -/
def execSet0A (s : State) : Out := setLoc 0 (.reg .a) 8 s

/-- `SET 1,B` (R184). -/
def execSet1B (s : State) : Out := setLoc 1 (.reg .b) 8 s

/-- `SET 1,C` (R184). -/
def execSet1C (s : State) : Out := setLoc 1 (.reg .c) 8 s

/-- `SET 1,D` (R184). -/
def execSet1D (s : State) : Out := setLoc 1 (.reg .d) 8 s

/-- `SET 1,E` (R184). -/
def execSet1E (s : State) : Out := setLoc 1 (.reg .e) 8 s

/-- `SET 1,H` (R184). -/
def execSet1H (s : State) : Out := setLoc 1 (.reg .h) 8 s

/-- `SET 1,L` (R184). -/
def execSet1L (s : State) : Out := setLoc 1 (.reg .l) 8 s

/-- `SET 1,(HL)` (R184). -/
def execSet1IndHl (s : State) : Out := setLoc 1 .atHl 16 s

/-- `SET 1,A` (R184). -/
def execSet1A (s : State) : Out := setLoc 1 (.reg .a) 8 s

/-- `SET 2,B` (R184). -/
def execSet2B (s : State) : Out := setLoc 2 (.reg .b) 8 s

/-- `SET 2,C` (R184). -/
def execSet2C (s : State) : Out := setLoc 2 (.reg .c) 8 s

/-- `SET 2,D` (R184). -/
def execSet2D (s : State) : Out := setLoc 2 (.reg .d) 8 s

/-- `SET 2,E` (R184). -/
def execSet2E (s : State) : Out := setLoc 2 (.reg .e) 8 s

/-- `SET 2,H` (R184). -/
def execSet2H (s : State) : Out := setLoc 2 (.reg .h) 8 s

/-- `SET 2,L` (R184). -/
def execSet2L (s : State) : Out := setLoc 2 (.reg .l) 8 s

/-- `SET 2,(HL)` (R184). -/
def execSet2IndHl (s : State) : Out := setLoc 2 .atHl 16 s

/-- `SET 2,A` (R184). -/
def execSet2A (s : State) : Out := setLoc 2 (.reg .a) 8 s

/-- `SET 3,B` (R184). -/
def execSet3B (s : State) : Out := setLoc 3 (.reg .b) 8 s

/-- `SET 3,C` (R184). -/
def execSet3C (s : State) : Out := setLoc 3 (.reg .c) 8 s

/-- `SET 3,D` (R184). -/
def execSet3D (s : State) : Out := setLoc 3 (.reg .d) 8 s

/-- `SET 3,E` (R184). -/
def execSet3E (s : State) : Out := setLoc 3 (.reg .e) 8 s

/-- `SET 3,H` (R184). -/
def execSet3H (s : State) : Out := setLoc 3 (.reg .h) 8 s

/-- `SET 3,L` (R184). -/
def execSet3L (s : State) : Out := setLoc 3 (.reg .l) 8 s

/-- `SET 3,(HL)` (R184). -/
def execSet3IndHl (s : State) : Out := setLoc 3 .atHl 16 s

/-- `SET 3,A` (R184). -/
def execSet3A (s : State) : Out := setLoc 3 (.reg .a) 8 s

/-- `SET 4,B` (R184). -/
def execSet4B (s : State) : Out := setLoc 4 (.reg .b) 8 s

/-- `SET 4,C` (R184). -/
def execSet4C (s : State) : Out := setLoc 4 (.reg .c) 8 s

/-- `SET 4,D` (R184). -/
def execSet4D (s : State) : Out := setLoc 4 (.reg .d) 8 s

/-- `SET 4,E` (R184). -/
def execSet4E (s : State) : Out := setLoc 4 (.reg .e) 8 s

/-- `SET 4,H` (R184). -/
def execSet4H (s : State) : Out := setLoc 4 (.reg .h) 8 s

/-- `SET 4,L` (R184). -/
def execSet4L (s : State) : Out := setLoc 4 (.reg .l) 8 s

/-- `SET 4,(HL)` (R184). -/
def execSet4IndHl (s : State) : Out := setLoc 4 .atHl 16 s

/-- `SET 4,A` (R184). -/
def execSet4A (s : State) : Out := setLoc 4 (.reg .a) 8 s

/-- `SET 5,B` (R184). -/
def execSet5B (s : State) : Out := setLoc 5 (.reg .b) 8 s

/-- `SET 5,C` (R184). -/
def execSet5C (s : State) : Out := setLoc 5 (.reg .c) 8 s

/-- `SET 5,D` (R184). -/
def execSet5D (s : State) : Out := setLoc 5 (.reg .d) 8 s

/-- `SET 5,E` (R184). -/
def execSet5E (s : State) : Out := setLoc 5 (.reg .e) 8 s

/-- `SET 5,H` (R184). -/
def execSet5H (s : State) : Out := setLoc 5 (.reg .h) 8 s

/-- `SET 5,L` (R184). -/
def execSet5L (s : State) : Out := setLoc 5 (.reg .l) 8 s

/-- `SET 5,(HL)` (R184). -/
def execSet5IndHl (s : State) : Out := setLoc 5 .atHl 16 s

/-- `SET 5,A` (R184). -/
def execSet5A (s : State) : Out := setLoc 5 (.reg .a) 8 s

/-- `SET 6,B` (R184). -/
def execSet6B (s : State) : Out := setLoc 6 (.reg .b) 8 s

/-- `SET 6,C` (R184). -/
def execSet6C (s : State) : Out := setLoc 6 (.reg .c) 8 s

/-- `SET 6,D` (R184). -/
def execSet6D (s : State) : Out := setLoc 6 (.reg .d) 8 s

/-- `SET 6,E` (R184). -/
def execSet6E (s : State) : Out := setLoc 6 (.reg .e) 8 s

/-- `SET 6,H` (R184). -/
def execSet6H (s : State) : Out := setLoc 6 (.reg .h) 8 s

/-- `SET 6,L` (R184). -/
def execSet6L (s : State) : Out := setLoc 6 (.reg .l) 8 s

/-- `SET 6,(HL)` (R184). -/
def execSet6IndHl (s : State) : Out := setLoc 6 .atHl 16 s

/-- `SET 6,A` (R184). -/
def execSet6A (s : State) : Out := setLoc 6 (.reg .a) 8 s

/-- `SET 7,B` (R184). -/
def execSet7B (s : State) : Out := setLoc 7 (.reg .b) 8 s

/-- `SET 7,C` (R184). -/
def execSet7C (s : State) : Out := setLoc 7 (.reg .c) 8 s

/-- `SET 7,D` (R184). -/
def execSet7D (s : State) : Out := setLoc 7 (.reg .d) 8 s

/-- `SET 7,E` (R184). -/
def execSet7E (s : State) : Out := setLoc 7 (.reg .e) 8 s

/-- `SET 7,H` (R184). -/
def execSet7H (s : State) : Out := setLoc 7 (.reg .h) 8 s

/-- `SET 7,L` (R184). -/
def execSet7L (s : State) : Out := setLoc 7 (.reg .l) 8 s

/-- `SET 7,(HL)` (R184). -/
def execSet7IndHl (s : State) : Out := setLoc 7 .atHl 16 s

/-- `SET 7,A` (R184). -/
def execSet7A (s : State) : Out := setLoc 7 (.reg .a) 8 s

end Sys2Proof.Machine
end

