-- ==== Sys2Proof/Machine/Control.lean ====
section
/-! DEFINITION. Control transfer (spec/46_control.md R185 to R195). PC is the address after the instruction
when a meaning runs (spec/40_execution_engine.md R116). The shared forms stand first, then one meaning per opcode. -/

namespace Sys2Proof.Machine

/-- The target of a relative jump: PC plus the sign-extended displacement, wrapping (R188, R189). -/
def relTarget (e : Byte) (s : State) : Word := s.cpu.pc + e.signExtend 16

/-- `JP cc,nn`: 16 cycles if taken, 12 if not (R186). -/
def jpIf (cc : Cond) (nn : Word) (s : State) : Out :=
  if condHolds cc s.cpu.flags then finish 16 (s.jump nn) else finish 12 s

/-- `JR cc,e`: 12 cycles if taken, 8 if not (R189). -/
def jrIf (cc : Cond) (e : Byte) (s : State) : Out :=
  if condHolds cc s.cpu.flags then finish 12 (s.jump (relTarget e s)) else finish 8 s

/-- `push16(PC); PC <- target` (R190, R195). -/
def callTo (target : Word) (cost : Nat) (s : State) : Out :=
  push16 s.cpu.pc s fun s => finish cost (s.jump target)

/-- `CALL cc,nn`: 24 cycles if taken, 12 if not, with no stack access then (R191). -/
def callIf (cc : Cond) (nn : Word) (s : State) : Out :=
  if condHolds cc s.cpu.flags then callTo nn 24 s else finish 12 s

/-- `PC <- pop16()` (R192). -/
def retFrom (cost : Nat) (s : State) : Out := pop16 s fun pc s => finish cost (s.jump pc)

/-- `RET cc`: 20 cycles if taken, 8 if not (R193). -/
def retIf (cc : Cond) (s : State) : Out :=
  if condHolds cc s.cpu.flags then retFrom 20 s else finish 8 s

/-- `JR e` (R188). -/
def execJrE (e : Byte) (s : State) : Out := finish 12 (s.jump (relTarget e s))

/-- `JR NZ,e` (R189). -/
def execJrNZE (e : Byte) (s : State) : Out := jrIf .nz e s

/-- `JR Z,e` (R189). -/
def execJrZE (e : Byte) (s : State) : Out := jrIf .z e s

/-- `JR NC,e` (R189). -/
def execJrNCE (e : Byte) (s : State) : Out := jrIf .nc e s

/-- `JR C,e` (R189). -/
def execJrCE (e : Byte) (s : State) : Out := jrIf .c e s

/-- `JP NZ,nn` (R186). -/
def execJpNZNn (nn : Word) (s : State) : Out := jpIf .nz nn s

/-- `JP nn` (R185). -/
def execJpNn (nn : Word) (s : State) : Out := finish 16 (s.jump nn)

/-- `CALL NZ,nn` (R191). -/
def execCallNZNn (nn : Word) (s : State) : Out := callIf .nz nn s

/-- `JP Z,nn` (R186). -/
def execJpZNn (nn : Word) (s : State) : Out := jpIf .z nn s

/-- `CALL Z,nn` (R191). -/
def execCallZNn (nn : Word) (s : State) : Out := callIf .z nn s

/-- `CALL nn` (R190). -/
def execCallNn (nn : Word) (s : State) : Out := callTo nn 24 s

/-- `JP NC,nn` (R186). -/
def execJpNCNn (nn : Word) (s : State) : Out := jpIf .nc nn s

/-- `CALL NC,nn` (R191). -/
def execCallNCNn (nn : Word) (s : State) : Out := callIf .nc nn s

/-- `JP C,nn` (R186). -/
def execJpCNn (nn : Word) (s : State) : Out := jpIf .c nn s

/-- `CALL C,nn` (R191). -/
def execCallCNn (nn : Word) (s : State) : Out := callIf .c nn s

/-- `RET NZ` (R193). -/
def execRetNZ (s : State) : Out := retIf .nz s

/-- `RST 0x00` (R195). -/
def execRst00 (s : State) : Out := callTo 0x0000 16 s

/-- `RET Z` (R193). -/
def execRetZ (s : State) : Out := retIf .z s

/-- `RET` (R192). -/
def execRet (s : State) : Out := retFrom 16 s

/-- `RST 0x08` (R195). -/
def execRst08 (s : State) : Out := callTo 0x0008 16 s

/-- `RET NC` (R193). -/
def execRetNC (s : State) : Out := retIf .nc s

/-- `RST 0x10` (R195). -/
def execRst10 (s : State) : Out := callTo 0x0010 16 s

/-- `RET C` (R193). -/
def execRetC (s : State) : Out := retIf .c s

/-- `RETI` (R194). -/
def execReti (s : State) : Out := returnFromInterrupt s (finish 16)

/-- `RST 0x18` (R195). -/
def execRst18 (s : State) : Out := callTo 0x0018 16 s

/-- `RST 0x20` (R195). -/
def execRst20 (s : State) : Out := callTo 0x0020 16 s

/-- `JP HL` (R187). -/
def execJpHl (s : State) : Out := finish 4 (s.jump s.cpu.hl)

/-- `RST 0x28` (R195). -/
def execRst28 (s : State) : Out := callTo 0x0028 16 s

/-- `RST 0x30` (R195). -/
def execRst30 (s : State) : Out := callTo 0x0030 16 s

/-- `RST 0x38` (R195). -/
def execRst38 (s : State) : Out := callTo 0x0038 16 s

end Sys2Proof.Machine
end

