-- ==== Sys2Proof/WellFormed.lean ====
section
/-! DEFINITION. Which terms of `Instr` are instructions of the machine: the opcode an `undefined` carries is one of the
eleven of spec/30_encoding.md R107, and a bare `prefixCb`, the prefix with its second byte not yet looked up in the
extended table, is no complete instruction: its words are those of the row its second byte selects (R117, R201). -/

namespace Sys2Proof

/-- The eleven undefined primary opcodes (R107). -/
def undefinedOpcodes : List Byte :=
  [0xD3, 0xDB, 0xDD, 0xE3, 0xE4, 0xEB, 0xEC, 0xED, 0xF4, 0xFC, 0xFD]

/-- An instruction that some bytes decode to. Every value of an operand byte is valid (R108). -/
def Instr.wf (i : Instr) : Bool :=
  match i with
  | .undefined op => undefinedOpcodes.contains op
  | .prefixCb _ => false
  | _ => true

end Sys2Proof
end

