-- ==== Sys2Proof/Decode.lean ====
section
/-! DEFINITION. The decoder and, after it, the encoder (spec/30_encoding.md). The decoder is the two maps of R105 and
R106, a row of sixteen opcodes at a time, and is total: every byte value is an instruction, so it rejects only a byte
list that ends too early. The encoder is written from the same maps. Last, the families of instructions by operand
field (R96 to R101), for statements about a whole family. -/

namespace Sys2Proof

/-- Why a byte list is no instruction: it is empty, or it ends before the operand bytes the opcode asks for (R94). -/
inductive DecodeError where
  | noOpcode
  | operandMissing
  deriving DecidableEq, Repr

/-- One entry of the primary map: the operand bytes still to be fetched, and the instruction they make (R94, R95). -/
inductive Entry where
  | done (i : Instr)
  | imm8 (f : Byte → Instr)
  | imm16 (f : Word → Instr)

namespace Decode

/-! The extended map (R106), one row of the map a definition: row `cb[7:4]`, column `cb[3:0]`. -/

/-- CB row 0x (R106). -/
def cbRow0 : List Instr :=
  [.rlcB, .rlcC, .rlcD, .rlcE, .rlcH, .rlcL, .rlcIndHl, .rlcA,
   .rrcB, .rrcC, .rrcD, .rrcE, .rrcH, .rrcL, .rrcIndHl, .rrcA]
/-- CB row 1x (R106). -/
def cbRow1 : List Instr :=
  [.rlB, .rlC, .rlD, .rlE, .rlH, .rlL, .rlIndHl, .rlA,
   .rrB, .rrC, .rrD, .rrE, .rrH, .rrL, .rrIndHl, .rrA]
/-- CB row 2x (R106). -/
def cbRow2 : List Instr :=
  [.slaB, .slaC, .slaD, .slaE, .slaH, .slaL, .slaIndHl, .slaA,
   .sraB, .sraC, .sraD, .sraE, .sraH, .sraL, .sraIndHl, .sraA]
/-- CB row 3x (R106). -/
def cbRow3 : List Instr :=
  [.swapB, .swapC, .swapD, .swapE, .swapH, .swapL, .swapIndHl, .swapA,
   .srlB, .srlC, .srlD, .srlE, .srlH, .srlL, .srlIndHl, .srlA]
/-- CB row 4x (R106). -/
def cbRow4 : List Instr :=
  [.bit0B, .bit0C, .bit0D, .bit0E, .bit0H, .bit0L, .bit0IndHl, .bit0A,
   .bit1B, .bit1C, .bit1D, .bit1E, .bit1H, .bit1L, .bit1IndHl, .bit1A]
/-- CB row 5x (R106). -/
def cbRow5 : List Instr :=
  [.bit2B, .bit2C, .bit2D, .bit2E, .bit2H, .bit2L, .bit2IndHl, .bit2A,
   .bit3B, .bit3C, .bit3D, .bit3E, .bit3H, .bit3L, .bit3IndHl, .bit3A]
/-- CB row 6x (R106). -/
def cbRow6 : List Instr :=
  [.bit4B, .bit4C, .bit4D, .bit4E, .bit4H, .bit4L, .bit4IndHl, .bit4A,
   .bit5B, .bit5C, .bit5D, .bit5E, .bit5H, .bit5L, .bit5IndHl, .bit5A]
/-- CB row 7x (R106). -/
def cbRow7 : List Instr :=
  [.bit6B, .bit6C, .bit6D, .bit6E, .bit6H, .bit6L, .bit6IndHl, .bit6A,
   .bit7B, .bit7C, .bit7D, .bit7E, .bit7H, .bit7L, .bit7IndHl, .bit7A]
/-- CB row 8x (R106). -/
def cbRow8 : List Instr :=
  [.res0B, .res0C, .res0D, .res0E, .res0H, .res0L, .res0IndHl, .res0A,
   .res1B, .res1C, .res1D, .res1E, .res1H, .res1L, .res1IndHl, .res1A]
/-- CB row 9x (R106). -/
def cbRow9 : List Instr :=
  [.res2B, .res2C, .res2D, .res2E, .res2H, .res2L, .res2IndHl, .res2A,
   .res3B, .res3C, .res3D, .res3E, .res3H, .res3L, .res3IndHl, .res3A]
/-- CB row Ax (R106). -/
def cbRowA : List Instr :=
  [.res4B, .res4C, .res4D, .res4E, .res4H, .res4L, .res4IndHl, .res4A,
   .res5B, .res5C, .res5D, .res5E, .res5H, .res5L, .res5IndHl, .res5A]
/-- CB row Bx (R106). -/
def cbRowB : List Instr :=
  [.res6B, .res6C, .res6D, .res6E, .res6H, .res6L, .res6IndHl, .res6A,
   .res7B, .res7C, .res7D, .res7E, .res7H, .res7L, .res7IndHl, .res7A]
/-- CB row Cx (R106). -/
def cbRowC : List Instr :=
  [.set0B, .set0C, .set0D, .set0E, .set0H, .set0L, .set0IndHl, .set0A,
   .set1B, .set1C, .set1D, .set1E, .set1H, .set1L, .set1IndHl, .set1A]
/-- CB row Dx (R106). -/
def cbRowD : List Instr :=
  [.set2B, .set2C, .set2D, .set2E, .set2H, .set2L, .set2IndHl, .set2A,
   .set3B, .set3C, .set3D, .set3E, .set3H, .set3L, .set3IndHl, .set3A]
/-- CB row Ex (R106). -/
def cbRowE : List Instr :=
  [.set4B, .set4C, .set4D, .set4E, .set4H, .set4L, .set4IndHl, .set4A,
   .set5B, .set5C, .set5D, .set5E, .set5H, .set5L, .set5IndHl, .set5A]
/-- CB row Fx (R106). -/
def cbRowF : List Instr :=
  [.set6B, .set6C, .set6D, .set6E, .set6H, .set6L, .set6IndHl, .set6A,
   .set7B, .set7C, .set7D, .set7E, .set7H, .set7L, .set7IndHl, .set7A]

/-- The rows of the extended map, in order. -/
def cbRows : List (List Instr) :=
  [cbRow0, cbRow1, cbRow2, cbRow3, cbRow4, cbRow5, cbRow6, cbRow7,
   cbRow8, cbRow9, cbRowA, cbRowB, cbRowC, cbRowD, cbRowE, cbRowF]

/-- The instruction of the second byte of a 0xCB instruction: row `cb[7:4]`, column `cb[3:0]` (R106, R201). All 256
are defined (R108), so the default of the look-up is never reached. -/
def cbInstr (cb : Byte) : Instr :=
  (cbRows.getD (cb.toNat / 16) []).getD (cb.toNat % 16) .nop

/-! The primary map (R105), one row of the map a definition: row `op[7:4]`, column `op[3:0]`. -/

/-- Primary row 0x (R105). -/
def row0 : List Entry :=
  [.done .nop, .imm16 .ldBcNn, .done .ldIndBcA, .done .incBc,
   .done .incB, .done .decB, .imm8 .ldBN, .done .rlca,
   .imm16 .ldIndNnSp, .done .addHlBc, .done .ldAIndBc, .done .decBc,
   .done .incC, .done .decC, .imm8 .ldCN, .done .rrca]
/-- Primary row 1x (R105). -/
def row1 : List Entry :=
  [.done .stop, .imm16 .ldDeNn, .done .ldIndDeA, .done .incDe,
   .done .incD, .done .decD, .imm8 .ldDN, .done .rla,
   .imm8 .jrE, .done .addHlDe, .done .ldAIndDe, .done .decDe,
   .done .incE, .done .decE, .imm8 .ldEN, .done .rra]
/-- Primary row 2x (R105). -/
def row2 : List Entry :=
  [.imm8 .jrNZE, .imm16 .ldHlNn, .done .ldIndHlIncA, .done .incHl,
   .done .incH, .done .decH, .imm8 .ldHN, .done .daa,
   .imm8 .jrZE, .done .addHlHl, .done .ldAIndHlInc, .done .decHl,
   .done .incL, .done .decL, .imm8 .ldLN, .done .cpl]
/-- Primary row 3x (R105). -/
def row3 : List Entry :=
  [.imm8 .jrNCE, .imm16 .ldSpNn, .done .ldIndHlDecA, .done .incSp,
   .done .incIndHl, .done .decIndHl, .imm8 .ldIndHlN, .done .scf,
   .imm8 .jrCE, .done .addHlSp, .done .ldAIndHlDec, .done .decSp,
   .done .incA, .done .decA, .imm8 .ldAN, .done .ccf]
/-- Primary row 4x (R105). -/
def row4 : List Entry :=
  [.done .ldBB, .done .ldBC, .done .ldBD, .done .ldBE,
   .done .ldBH, .done .ldBL, .done .ldBIndHl, .done .ldBA,
   .done .ldCB, .done .ldCC, .done .ldCD, .done .ldCE,
   .done .ldCH, .done .ldCL, .done .ldCIndHl, .done .ldCA]
/-- Primary row 5x (R105). -/
def row5 : List Entry :=
  [.done .ldDB, .done .ldDC, .done .ldDD, .done .ldDE,
   .done .ldDH, .done .ldDL, .done .ldDIndHl, .done .ldDA,
   .done .ldEB, .done .ldEC, .done .ldED, .done .ldEE,
   .done .ldEH, .done .ldEL, .done .ldEIndHl, .done .ldEA]
/-- Primary row 6x (R105). -/
def row6 : List Entry :=
  [.done .ldHB, .done .ldHC, .done .ldHD, .done .ldHE,
   .done .ldHH, .done .ldHL, .done .ldHIndHl, .done .ldHA,
   .done .ldLB, .done .ldLC, .done .ldLD, .done .ldLE,
   .done .ldLH, .done .ldLL, .done .ldLIndHl, .done .ldLA]
/-- Primary row 7x (R105). -/
def row7 : List Entry :=
  [.done .ldIndHlB, .done .ldIndHlC, .done .ldIndHlD, .done .ldIndHlE,
   .done .ldIndHlH, .done .ldIndHlL, .done .halt, .done .ldIndHlA,
   .done .ldAB, .done .ldAC, .done .ldAD, .done .ldAE,
   .done .ldAH, .done .ldAL, .done .ldAIndHl, .done .ldAA]
/-- Primary row 8x (R105). -/
def row8 : List Entry :=
  [.done .addAB, .done .addAC, .done .addAD, .done .addAE,
   .done .addAH, .done .addAL, .done .addAIndHl, .done .addAA,
   .done .adcAB, .done .adcAC, .done .adcAD, .done .adcAE,
   .done .adcAH, .done .adcAL, .done .adcAIndHl, .done .adcAA]
/-- Primary row 9x (R105). -/
def row9 : List Entry :=
  [.done .subAB, .done .subAC, .done .subAD, .done .subAE,
   .done .subAH, .done .subAL, .done .subAIndHl, .done .subAA,
   .done .sbcAB, .done .sbcAC, .done .sbcAD, .done .sbcAE,
   .done .sbcAH, .done .sbcAL, .done .sbcAIndHl, .done .sbcAA]
/-- Primary row Ax (R105). -/
def rowA : List Entry :=
  [.done .andAB, .done .andAC, .done .andAD, .done .andAE,
   .done .andAH, .done .andAL, .done .andAIndHl, .done .andAA,
   .done .xorAB, .done .xorAC, .done .xorAD, .done .xorAE,
   .done .xorAH, .done .xorAL, .done .xorAIndHl, .done .xorAA]
/-- Primary row Bx (R105). -/
def rowB : List Entry :=
  [.done .orAB, .done .orAC, .done .orAD, .done .orAE,
   .done .orAH, .done .orAL, .done .orAIndHl, .done .orAA,
   .done .cpAB, .done .cpAC, .done .cpAD, .done .cpAE,
   .done .cpAH, .done .cpAL, .done .cpAIndHl, .done .cpAA]
/-- Primary row Cx (R105). -/
def rowC : List Entry :=
  [.done .retNZ, .done .popBc, .imm16 .jpNZNn, .imm16 .jpNn,
   .imm16 .callNZNn, .done .pushBc, .imm8 .addAN, .done .rst00,
   .done .retZ, .done .ret, .imm16 .jpZNn, .imm8 cbInstr,
   .imm16 .callZNn, .imm16 .callNn, .imm8 .adcAN, .done .rst08]
/-- Primary row Dx (R105). -/
def rowD : List Entry :=
  [.done .retNC, .done .popDe, .imm16 .jpNCNn, .done (.undefined 0xD3),
   .imm16 .callNCNn, .done .pushDe, .imm8 .subAN, .done .rst10,
   .done .retC, .done .reti, .imm16 .jpCNn, .done (.undefined 0xDB),
   .imm16 .callCNn, .done (.undefined 0xDD), .imm8 .sbcAN, .done .rst18]
/-- Primary row Ex (R105). -/
def rowE : List Entry :=
  [.imm8 .ldhIndA8A, .done .popHl, .done .ldIndCA, .done (.undefined 0xE3),
   .done (.undefined 0xE4), .done .pushHl, .imm8 .andAN, .done .rst20,
   .imm8 .addSpE, .done .jpHl, .imm16 .ldIndNnA, .done (.undefined 0xEB),
   .done (.undefined 0xEC), .done (.undefined 0xED), .imm8 .xorAN, .done .rst28]
/-- Primary row Fx (R105). -/
def rowF : List Entry :=
  [.imm8 .ldhAIndA8, .done .popAf, .done .ldAIndC, .done .di,
   .done (.undefined 0xF4), .done .pushAf, .imm8 .orAN, .done .rst30,
   .imm8 .ldHlSpE, .done .ldSpHl, .imm16 .ldAIndNn, .done .ei,
   .done (.undefined 0xFC), .done (.undefined 0xFD), .imm8 .cpAN, .done .rst38]

/-- The rows of the primary map, in order. -/
def primaryRows : List (List Entry) :=
  [row0, row1, row2, row3, row4, row5, row6, row7, row8, row9, rowA, rowB, rowC, rowD, rowE, rowF]

/-- The entry of a first byte: row `op[7:4]`, column `op[3:0]` (R105). The map has all 256 entries, so the default of
the look-up is never reached. -/
def primary (op : Byte) : Entry :=
  (primaryRows.getD (op.toNat / 16) []).getD (op.toNat % 16) (.done .nop)

end Decode

/-- The instruction at the head of a byte list, which may go on after it (R94, R102, R117). STOP needs no second byte:
that byte is skipped, not read (R103). -/
def decode : List Byte → Except DecodeError Instr
  | [] => .error .noOpcode
  | op :: rest =>
    match Decode.primary op with
    | .done i => .ok i
    | .imm8 f =>
      match rest with
      | n :: _ => .ok (f n)
      | [] => .error .operandMissing
    | .imm16 f =>
      match rest with
      | lo :: hi :: _ => .ok (f (Word.ofBytes hi lo))
      | _ => .error .operandMissing

/-- The bytes, lowest address first, of an instruction that spec/opcode_table.json numbers `w` on `nbits` bits, up to
the longest instruction (three bytes). The table writes a CB row as the number 0xCBxx, the prefix (the first byte in
memory) in bits 15..8; any other number has its first byte in bits 7..0. -/
def tableBytes (nbits w : Nat) : List Byte :=
  if nbits = 16 ∧ w / 256 % 256 = 0xCB then
    [0xCB, BitVec.ofNat 8 w, 0]
  else
    [BitVec.ofNat 8 w, BitVec.ofNat 8 (w / 256), BitVec.ofNat 8 (w / 65536)]

/-- The instruction the decoder reads from an instruction word of spec/opcode_table.json. -/
def decodeTableWord (nbits w : Nat) : Option Instr :=
  match decode (tableBytes nbits w) with
  | .ok i => some i
  | .error _ => none

/-- The bytes of an instruction, lowest address first (R95, R105, R106): the opcode, then the operand byte, or the
operand word low byte first (R102). STOP's ignored byte is written 0x00 (R95). -/
def encode : Instr → List Byte
  | .nop => [0x00]
  | .ldBcNn nn => [0x01, nn.lo, nn.hi]
  | .ldIndBcA => [0x02]
  | .incBc => [0x03]
  | .incB => [0x04]
  | .decB => [0x05]
  | .ldBN n => [0x06, n]
  | .rlca => [0x07]
  | .ldIndNnSp nn => [0x08, nn.lo, nn.hi]
  | .addHlBc => [0x09]
  | .ldAIndBc => [0x0A]
  | .decBc => [0x0B]
  | .incC => [0x0C]
  | .decC => [0x0D]
  | .ldCN n => [0x0E, n]
  | .rrca => [0x0F]
  | .stop => [0x10, 0x00]
  | .ldDeNn nn => [0x11, nn.lo, nn.hi]
  | .ldIndDeA => [0x12]
  | .incDe => [0x13]
  | .incD => [0x14]
  | .decD => [0x15]
  | .ldDN n => [0x16, n]
  | .rla => [0x17]
  | .jrE e => [0x18, e]
  | .addHlDe => [0x19]
  | .ldAIndDe => [0x1A]
  | .decDe => [0x1B]
  | .incE => [0x1C]
  | .decE => [0x1D]
  | .ldEN n => [0x1E, n]
  | .rra => [0x1F]
  | .jrNZE e => [0x20, e]
  | .ldHlNn nn => [0x21, nn.lo, nn.hi]
  | .ldIndHlIncA => [0x22]
  | .incHl => [0x23]
  | .incH => [0x24]
  | .decH => [0x25]
  | .ldHN n => [0x26, n]
  | .daa => [0x27]
  | .jrZE e => [0x28, e]
  | .addHlHl => [0x29]
  | .ldAIndHlInc => [0x2A]
  | .decHl => [0x2B]
  | .incL => [0x2C]
  | .decL => [0x2D]
  | .ldLN n => [0x2E, n]
  | .cpl => [0x2F]
  | .jrNCE e => [0x30, e]
  | .ldSpNn nn => [0x31, nn.lo, nn.hi]
  | .ldIndHlDecA => [0x32]
  | .incSp => [0x33]
  | .incIndHl => [0x34]
  | .decIndHl => [0x35]
  | .ldIndHlN n => [0x36, n]
  | .scf => [0x37]
  | .jrCE e => [0x38, e]
  | .addHlSp => [0x39]
  | .ldAIndHlDec => [0x3A]
  | .decSp => [0x3B]
  | .incA => [0x3C]
  | .decA => [0x3D]
  | .ldAN n => [0x3E, n]
  | .ccf => [0x3F]
  | .ldBB => [0x40]
  | .ldBC => [0x41]
  | .ldBD => [0x42]
  | .ldBE => [0x43]
  | .ldBH => [0x44]
  | .ldBL => [0x45]
  | .ldBIndHl => [0x46]
  | .ldBA => [0x47]
  | .ldCB => [0x48]
  | .ldCC => [0x49]
  | .ldCD => [0x4A]
  | .ldCE => [0x4B]
  | .ldCH => [0x4C]
  | .ldCL => [0x4D]
  | .ldCIndHl => [0x4E]
  | .ldCA => [0x4F]
  | .ldDB => [0x50]
  | .ldDC => [0x51]
  | .ldDD => [0x52]
  | .ldDE => [0x53]
  | .ldDH => [0x54]
  | .ldDL => [0x55]
  | .ldDIndHl => [0x56]
  | .ldDA => [0x57]
  | .ldEB => [0x58]
  | .ldEC => [0x59]
  | .ldED => [0x5A]
  | .ldEE => [0x5B]
  | .ldEH => [0x5C]
  | .ldEL => [0x5D]
  | .ldEIndHl => [0x5E]
  | .ldEA => [0x5F]
  | .ldHB => [0x60]
  | .ldHC => [0x61]
  | .ldHD => [0x62]
  | .ldHE => [0x63]
  | .ldHH => [0x64]
  | .ldHL => [0x65]
  | .ldHIndHl => [0x66]
  | .ldHA => [0x67]
  | .ldLB => [0x68]
  | .ldLC => [0x69]
  | .ldLD => [0x6A]
  | .ldLE => [0x6B]
  | .ldLH => [0x6C]
  | .ldLL => [0x6D]
  | .ldLIndHl => [0x6E]
  | .ldLA => [0x6F]
  | .ldIndHlB => [0x70]
  | .ldIndHlC => [0x71]
  | .ldIndHlD => [0x72]
  | .ldIndHlE => [0x73]
  | .ldIndHlH => [0x74]
  | .ldIndHlL => [0x75]
  | .halt => [0x76]
  | .ldIndHlA => [0x77]
  | .ldAB => [0x78]
  | .ldAC => [0x79]
  | .ldAD => [0x7A]
  | .ldAE => [0x7B]
  | .ldAH => [0x7C]
  | .ldAL => [0x7D]
  | .ldAIndHl => [0x7E]
  | .ldAA => [0x7F]
  | .addAB => [0x80]
  | .addAC => [0x81]
  | .addAD => [0x82]
  | .addAE => [0x83]
  | .addAH => [0x84]
  | .addAL => [0x85]
  | .addAIndHl => [0x86]
  | .addAA => [0x87]
  | .adcAB => [0x88]
  | .adcAC => [0x89]
  | .adcAD => [0x8A]
  | .adcAE => [0x8B]
  | .adcAH => [0x8C]
  | .adcAL => [0x8D]
  | .adcAIndHl => [0x8E]
  | .adcAA => [0x8F]
  | .subAB => [0x90]
  | .subAC => [0x91]
  | .subAD => [0x92]
  | .subAE => [0x93]
  | .subAH => [0x94]
  | .subAL => [0x95]
  | .subAIndHl => [0x96]
  | .subAA => [0x97]
  | .sbcAB => [0x98]
  | .sbcAC => [0x99]
  | .sbcAD => [0x9A]
  | .sbcAE => [0x9B]
  | .sbcAH => [0x9C]
  | .sbcAL => [0x9D]
  | .sbcAIndHl => [0x9E]
  | .sbcAA => [0x9F]
  | .andAB => [0xA0]
  | .andAC => [0xA1]
  | .andAD => [0xA2]
  | .andAE => [0xA3]
  | .andAH => [0xA4]
  | .andAL => [0xA5]
  | .andAIndHl => [0xA6]
  | .andAA => [0xA7]
  | .xorAB => [0xA8]
  | .xorAC => [0xA9]
  | .xorAD => [0xAA]
  | .xorAE => [0xAB]
  | .xorAH => [0xAC]
  | .xorAL => [0xAD]
  | .xorAIndHl => [0xAE]
  | .xorAA => [0xAF]
  | .orAB => [0xB0]
  | .orAC => [0xB1]
  | .orAD => [0xB2]
  | .orAE => [0xB3]
  | .orAH => [0xB4]
  | .orAL => [0xB5]
  | .orAIndHl => [0xB6]
  | .orAA => [0xB7]
  | .cpAB => [0xB8]
  | .cpAC => [0xB9]
  | .cpAD => [0xBA]
  | .cpAE => [0xBB]
  | .cpAH => [0xBC]
  | .cpAL => [0xBD]
  | .cpAIndHl => [0xBE]
  | .cpAA => [0xBF]
  | .retNZ => [0xC0]
  | .popBc => [0xC1]
  | .jpNZNn nn => [0xC2, nn.lo, nn.hi]
  | .jpNn nn => [0xC3, nn.lo, nn.hi]
  | .callNZNn nn => [0xC4, nn.lo, nn.hi]
  | .pushBc => [0xC5]
  | .addAN n => [0xC6, n]
  | .rst00 => [0xC7]
  | .retZ => [0xC8]
  | .ret => [0xC9]
  | .jpZNn nn => [0xCA, nn.lo, nn.hi]
  | .prefixCb cb => [0xCB, cb]
  | .callZNn nn => [0xCC, nn.lo, nn.hi]
  | .callNn nn => [0xCD, nn.lo, nn.hi]
  | .adcAN n => [0xCE, n]
  | .rst08 => [0xCF]
  | .retNC => [0xD0]
  | .popDe => [0xD1]
  | .jpNCNn nn => [0xD2, nn.lo, nn.hi]
  | .undefined op => [op]
  | .callNCNn nn => [0xD4, nn.lo, nn.hi]
  | .pushDe => [0xD5]
  | .subAN n => [0xD6, n]
  | .rst10 => [0xD7]
  | .retC => [0xD8]
  | .reti => [0xD9]
  | .jpCNn nn => [0xDA, nn.lo, nn.hi]
  | .callCNn nn => [0xDC, nn.lo, nn.hi]
  | .sbcAN n => [0xDE, n]
  | .rst18 => [0xDF]
  | .ldhIndA8A a8 => [0xE0, a8]
  | .popHl => [0xE1]
  | .ldIndCA => [0xE2]
  | .pushHl => [0xE5]
  | .andAN n => [0xE6, n]
  | .rst20 => [0xE7]
  | .addSpE e => [0xE8, e]
  | .jpHl => [0xE9]
  | .ldIndNnA nn => [0xEA, nn.lo, nn.hi]
  | .xorAN n => [0xEE, n]
  | .rst28 => [0xEF]
  | .ldhAIndA8 a8 => [0xF0, a8]
  | .popAf => [0xF1]
  | .ldAIndC => [0xF2]
  | .di => [0xF3]
  | .pushAf => [0xF5]
  | .orAN n => [0xF6, n]
  | .rst30 => [0xF7]
  | .ldHlSpE e => [0xF8, e]
  | .ldSpHl => [0xF9]
  | .ldAIndNn nn => [0xFA, nn.lo, nn.hi]
  | .ei => [0xFB]
  | .cpAN n => [0xFE, n]
  | .rst38 => [0xFF]
  | .rlcB => [0xCB, 0x00]
  | .rlcC => [0xCB, 0x01]
  | .rlcD => [0xCB, 0x02]
  | .rlcE => [0xCB, 0x03]
  | .rlcH => [0xCB, 0x04]
  | .rlcL => [0xCB, 0x05]
  | .rlcIndHl => [0xCB, 0x06]
  | .rlcA => [0xCB, 0x07]
  | .rrcB => [0xCB, 0x08]
  | .rrcC => [0xCB, 0x09]
  | .rrcD => [0xCB, 0x0A]
  | .rrcE => [0xCB, 0x0B]
  | .rrcH => [0xCB, 0x0C]
  | .rrcL => [0xCB, 0x0D]
  | .rrcIndHl => [0xCB, 0x0E]
  | .rrcA => [0xCB, 0x0F]
  | .rlB => [0xCB, 0x10]
  | .rlC => [0xCB, 0x11]
  | .rlD => [0xCB, 0x12]
  | .rlE => [0xCB, 0x13]
  | .rlH => [0xCB, 0x14]
  | .rlL => [0xCB, 0x15]
  | .rlIndHl => [0xCB, 0x16]
  | .rlA => [0xCB, 0x17]
  | .rrB => [0xCB, 0x18]
  | .rrC => [0xCB, 0x19]
  | .rrD => [0xCB, 0x1A]
  | .rrE => [0xCB, 0x1B]
  | .rrH => [0xCB, 0x1C]
  | .rrL => [0xCB, 0x1D]
  | .rrIndHl => [0xCB, 0x1E]
  | .rrA => [0xCB, 0x1F]
  | .slaB => [0xCB, 0x20]
  | .slaC => [0xCB, 0x21]
  | .slaD => [0xCB, 0x22]
  | .slaE => [0xCB, 0x23]
  | .slaH => [0xCB, 0x24]
  | .slaL => [0xCB, 0x25]
  | .slaIndHl => [0xCB, 0x26]
  | .slaA => [0xCB, 0x27]
  | .sraB => [0xCB, 0x28]
  | .sraC => [0xCB, 0x29]
  | .sraD => [0xCB, 0x2A]
  | .sraE => [0xCB, 0x2B]
  | .sraH => [0xCB, 0x2C]
  | .sraL => [0xCB, 0x2D]
  | .sraIndHl => [0xCB, 0x2E]
  | .sraA => [0xCB, 0x2F]
  | .swapB => [0xCB, 0x30]
  | .swapC => [0xCB, 0x31]
  | .swapD => [0xCB, 0x32]
  | .swapE => [0xCB, 0x33]
  | .swapH => [0xCB, 0x34]
  | .swapL => [0xCB, 0x35]
  | .swapIndHl => [0xCB, 0x36]
  | .swapA => [0xCB, 0x37]
  | .srlB => [0xCB, 0x38]
  | .srlC => [0xCB, 0x39]
  | .srlD => [0xCB, 0x3A]
  | .srlE => [0xCB, 0x3B]
  | .srlH => [0xCB, 0x3C]
  | .srlL => [0xCB, 0x3D]
  | .srlIndHl => [0xCB, 0x3E]
  | .srlA => [0xCB, 0x3F]
  | .bit0B => [0xCB, 0x40]
  | .bit0C => [0xCB, 0x41]
  | .bit0D => [0xCB, 0x42]
  | .bit0E => [0xCB, 0x43]
  | .bit0H => [0xCB, 0x44]
  | .bit0L => [0xCB, 0x45]
  | .bit0IndHl => [0xCB, 0x46]
  | .bit0A => [0xCB, 0x47]
  | .bit1B => [0xCB, 0x48]
  | .bit1C => [0xCB, 0x49]
  | .bit1D => [0xCB, 0x4A]
  | .bit1E => [0xCB, 0x4B]
  | .bit1H => [0xCB, 0x4C]
  | .bit1L => [0xCB, 0x4D]
  | .bit1IndHl => [0xCB, 0x4E]
  | .bit1A => [0xCB, 0x4F]
  | .bit2B => [0xCB, 0x50]
  | .bit2C => [0xCB, 0x51]
  | .bit2D => [0xCB, 0x52]
  | .bit2E => [0xCB, 0x53]
  | .bit2H => [0xCB, 0x54]
  | .bit2L => [0xCB, 0x55]
  | .bit2IndHl => [0xCB, 0x56]
  | .bit2A => [0xCB, 0x57]
  | .bit3B => [0xCB, 0x58]
  | .bit3C => [0xCB, 0x59]
  | .bit3D => [0xCB, 0x5A]
  | .bit3E => [0xCB, 0x5B]
  | .bit3H => [0xCB, 0x5C]
  | .bit3L => [0xCB, 0x5D]
  | .bit3IndHl => [0xCB, 0x5E]
  | .bit3A => [0xCB, 0x5F]
  | .bit4B => [0xCB, 0x60]
  | .bit4C => [0xCB, 0x61]
  | .bit4D => [0xCB, 0x62]
  | .bit4E => [0xCB, 0x63]
  | .bit4H => [0xCB, 0x64]
  | .bit4L => [0xCB, 0x65]
  | .bit4IndHl => [0xCB, 0x66]
  | .bit4A => [0xCB, 0x67]
  | .bit5B => [0xCB, 0x68]
  | .bit5C => [0xCB, 0x69]
  | .bit5D => [0xCB, 0x6A]
  | .bit5E => [0xCB, 0x6B]
  | .bit5H => [0xCB, 0x6C]
  | .bit5L => [0xCB, 0x6D]
  | .bit5IndHl => [0xCB, 0x6E]
  | .bit5A => [0xCB, 0x6F]
  | .bit6B => [0xCB, 0x70]
  | .bit6C => [0xCB, 0x71]
  | .bit6D => [0xCB, 0x72]
  | .bit6E => [0xCB, 0x73]
  | .bit6H => [0xCB, 0x74]
  | .bit6L => [0xCB, 0x75]
  | .bit6IndHl => [0xCB, 0x76]
  | .bit6A => [0xCB, 0x77]
  | .bit7B => [0xCB, 0x78]
  | .bit7C => [0xCB, 0x79]
  | .bit7D => [0xCB, 0x7A]
  | .bit7E => [0xCB, 0x7B]
  | .bit7H => [0xCB, 0x7C]
  | .bit7L => [0xCB, 0x7D]
  | .bit7IndHl => [0xCB, 0x7E]
  | .bit7A => [0xCB, 0x7F]
  | .res0B => [0xCB, 0x80]
  | .res0C => [0xCB, 0x81]
  | .res0D => [0xCB, 0x82]
  | .res0E => [0xCB, 0x83]
  | .res0H => [0xCB, 0x84]
  | .res0L => [0xCB, 0x85]
  | .res0IndHl => [0xCB, 0x86]
  | .res0A => [0xCB, 0x87]
  | .res1B => [0xCB, 0x88]
  | .res1C => [0xCB, 0x89]
  | .res1D => [0xCB, 0x8A]
  | .res1E => [0xCB, 0x8B]
  | .res1H => [0xCB, 0x8C]
  | .res1L => [0xCB, 0x8D]
  | .res1IndHl => [0xCB, 0x8E]
  | .res1A => [0xCB, 0x8F]
  | .res2B => [0xCB, 0x90]
  | .res2C => [0xCB, 0x91]
  | .res2D => [0xCB, 0x92]
  | .res2E => [0xCB, 0x93]
  | .res2H => [0xCB, 0x94]
  | .res2L => [0xCB, 0x95]
  | .res2IndHl => [0xCB, 0x96]
  | .res2A => [0xCB, 0x97]
  | .res3B => [0xCB, 0x98]
  | .res3C => [0xCB, 0x99]
  | .res3D => [0xCB, 0x9A]
  | .res3E => [0xCB, 0x9B]
  | .res3H => [0xCB, 0x9C]
  | .res3L => [0xCB, 0x9D]
  | .res3IndHl => [0xCB, 0x9E]
  | .res3A => [0xCB, 0x9F]
  | .res4B => [0xCB, 0xA0]
  | .res4C => [0xCB, 0xA1]
  | .res4D => [0xCB, 0xA2]
  | .res4E => [0xCB, 0xA3]
  | .res4H => [0xCB, 0xA4]
  | .res4L => [0xCB, 0xA5]
  | .res4IndHl => [0xCB, 0xA6]
  | .res4A => [0xCB, 0xA7]
  | .res5B => [0xCB, 0xA8]
  | .res5C => [0xCB, 0xA9]
  | .res5D => [0xCB, 0xAA]
  | .res5E => [0xCB, 0xAB]
  | .res5H => [0xCB, 0xAC]
  | .res5L => [0xCB, 0xAD]
  | .res5IndHl => [0xCB, 0xAE]
  | .res5A => [0xCB, 0xAF]
  | .res6B => [0xCB, 0xB0]
  | .res6C => [0xCB, 0xB1]
  | .res6D => [0xCB, 0xB2]
  | .res6E => [0xCB, 0xB3]
  | .res6H => [0xCB, 0xB4]
  | .res6L => [0xCB, 0xB5]
  | .res6IndHl => [0xCB, 0xB6]
  | .res6A => [0xCB, 0xB7]
  | .res7B => [0xCB, 0xB8]
  | .res7C => [0xCB, 0xB9]
  | .res7D => [0xCB, 0xBA]
  | .res7E => [0xCB, 0xBB]
  | .res7H => [0xCB, 0xBC]
  | .res7L => [0xCB, 0xBD]
  | .res7IndHl => [0xCB, 0xBE]
  | .res7A => [0xCB, 0xBF]
  | .set0B => [0xCB, 0xC0]
  | .set0C => [0xCB, 0xC1]
  | .set0D => [0xCB, 0xC2]
  | .set0E => [0xCB, 0xC3]
  | .set0H => [0xCB, 0xC4]
  | .set0L => [0xCB, 0xC5]
  | .set0IndHl => [0xCB, 0xC6]
  | .set0A => [0xCB, 0xC7]
  | .set1B => [0xCB, 0xC8]
  | .set1C => [0xCB, 0xC9]
  | .set1D => [0xCB, 0xCA]
  | .set1E => [0xCB, 0xCB]
  | .set1H => [0xCB, 0xCC]
  | .set1L => [0xCB, 0xCD]
  | .set1IndHl => [0xCB, 0xCE]
  | .set1A => [0xCB, 0xCF]
  | .set2B => [0xCB, 0xD0]
  | .set2C => [0xCB, 0xD1]
  | .set2D => [0xCB, 0xD2]
  | .set2E => [0xCB, 0xD3]
  | .set2H => [0xCB, 0xD4]
  | .set2L => [0xCB, 0xD5]
  | .set2IndHl => [0xCB, 0xD6]
  | .set2A => [0xCB, 0xD7]
  | .set3B => [0xCB, 0xD8]
  | .set3C => [0xCB, 0xD9]
  | .set3D => [0xCB, 0xDA]
  | .set3E => [0xCB, 0xDB]
  | .set3H => [0xCB, 0xDC]
  | .set3L => [0xCB, 0xDD]
  | .set3IndHl => [0xCB, 0xDE]
  | .set3A => [0xCB, 0xDF]
  | .set4B => [0xCB, 0xE0]
  | .set4C => [0xCB, 0xE1]
  | .set4D => [0xCB, 0xE2]
  | .set4E => [0xCB, 0xE3]
  | .set4H => [0xCB, 0xE4]
  | .set4L => [0xCB, 0xE5]
  | .set4IndHl => [0xCB, 0xE6]
  | .set4A => [0xCB, 0xE7]
  | .set5B => [0xCB, 0xE8]
  | .set5C => [0xCB, 0xE9]
  | .set5D => [0xCB, 0xEA]
  | .set5E => [0xCB, 0xEB]
  | .set5H => [0xCB, 0xEC]
  | .set5L => [0xCB, 0xED]
  | .set5IndHl => [0xCB, 0xEE]
  | .set5A => [0xCB, 0xEF]
  | .set6B => [0xCB, 0xF0]
  | .set6C => [0xCB, 0xF1]
  | .set6D => [0xCB, 0xF2]
  | .set6E => [0xCB, 0xF3]
  | .set6H => [0xCB, 0xF4]
  | .set6L => [0xCB, 0xF5]
  | .set6IndHl => [0xCB, 0xF6]
  | .set6A => [0xCB, 0xF7]
  | .set7B => [0xCB, 0xF8]
  | .set7C => [0xCB, 0xF9]
  | .set7D => [0xCB, 0xFA]
  | .set7E => [0xCB, 0xFB]
  | .set7H => [0xCB, 0xFC]
  | .set7L => [0xCB, 0xFD]
  | .set7IndHl => [0xCB, 0xFE]
  | .set7A => [0xCB, 0xFF]

/-- The length in bytes (R94). -/
def Instr.length (i : Instr) : Nat := (encode i).length

/-- The bytes fetched before the instruction runs: all of them, but STOP's second (R103, R116). -/
def Instr.fetched (i : Instr) : Nat :=
  match i with
  | .stop => 1
  | _ => i.length

/-! ## Families by operand field (R96 to R101) -/

namespace Reg8

/-- The field value of a register (R97). -/
def field : Reg8 → BitVec 3
  | .b => 0 | .c => 1 | .d => 2 | .e => 3 | .h => 4 | .l => 5 | .a => 7

end Reg8

namespace Loc

/-- The field value of a register or of `(HL)` (R97). -/
def field : Loc → BitVec 3
  | .reg r => r.field
  | .atHl => 6

/-- What a field value names (R97). -/
def ofField (v : BitVec 3) : Loc :=
  if v = 0 then .reg .b
  else if v = 1 then .reg .c
  else if v = 2 then .reg .d
  else if v = 3 then .reg .e
  else if v = 4 then .reg .h
  else if v = 5 then .reg .l
  else if v = 6 then .atHl
  else .reg .a

end Loc

/-- The field value of a pair of `LD rr,nn` and its like (R98). -/
def RegPair.field : RegPair → BitVec 2
  | .bc => 0 | .de => 1 | .hl => 2 | .sp => 3

/-- The field value of a pair of `PUSH` and `POP` (R98). -/
def StackPair.field : StackPair → BitVec 2
  | .bc => 0 | .de => 1 | .hl => 2 | .af => 3

/-- The field value of a condition (R99). -/
def Cond.field : Cond → BitVec 2
  | .nz => 0 | .z => 1 | .nc => 2 | .c => 3

/-- The field value of an ALU operation (R100). -/
def AluOp.field : AluOp → BitVec 3
  | .add => 0 | .adc => 1 | .sub => 2 | .sbc => 3 | .and => 4 | .xor => 5 | .or => 6 | .cp => 7

/-- The field value of a CB rotate or shift (R101). -/
def ShiftOp.field : ShiftOp → BitVec 3
  | .rlc => 0 | .rrc => 1 | .rl => 2 | .rr => 3 | .sla => 4 | .sra => 5 | .swap => 6 | .srl => 7

/-- What the field `y` of a CB rotate or shift names (R101). -/
def ShiftOp.ofField (v : BitVec 3) : ShiftOp :=
  if v = 0 then .rlc
  else if v = 1 then .rrc
  else if v = 2 then .rl
  else if v = 3 then .rr
  else if v = 4 then .sla
  else if v = 5 then .sra
  else if v = 6 then .swap
  else .srl

namespace Instr

/-- `LD r,r'` (R123). -/
def ldRegReg : Reg8 → Reg8 → Instr
  | .b, .b => .ldBB
  | .b, .c => .ldBC
  | .b, .d => .ldBD
  | .b, .e => .ldBE
  | .b, .h => .ldBH
  | .b, .l => .ldBL
  | .b, .a => .ldBA
  | .c, .b => .ldCB
  | .c, .c => .ldCC
  | .c, .d => .ldCD
  | .c, .e => .ldCE
  | .c, .h => .ldCH
  | .c, .l => .ldCL
  | .c, .a => .ldCA
  | .d, .b => .ldDB
  | .d, .c => .ldDC
  | .d, .d => .ldDD
  | .d, .e => .ldDE
  | .d, .h => .ldDH
  | .d, .l => .ldDL
  | .d, .a => .ldDA
  | .e, .b => .ldEB
  | .e, .c => .ldEC
  | .e, .d => .ldED
  | .e, .e => .ldEE
  | .e, .h => .ldEH
  | .e, .l => .ldEL
  | .e, .a => .ldEA
  | .h, .b => .ldHB
  | .h, .c => .ldHC
  | .h, .d => .ldHD
  | .h, .e => .ldHE
  | .h, .h => .ldHH
  | .h, .l => .ldHL
  | .h, .a => .ldHA
  | .l, .b => .ldLB
  | .l, .c => .ldLC
  | .l, .d => .ldLD
  | .l, .e => .ldLE
  | .l, .h => .ldLH
  | .l, .l => .ldLL
  | .l, .a => .ldLA
  | .a, .b => .ldAB
  | .a, .c => .ldAC
  | .a, .d => .ldAD
  | .a, .e => .ldAE
  | .a, .h => .ldAH
  | .a, .l => .ldAL
  | .a, .a => .ldAA

/-- `LD r,n` (R124). -/
def ldRegImm : Reg8 → Byte → Instr
  | .b, n => .ldBN n
  | .c, n => .ldCN n
  | .d, n => .ldDN n
  | .e, n => .ldEN n
  | .h, n => .ldHN n
  | .l, n => .ldLN n
  | .a, n => .ldAN n

/-- `LD r,(HL)` (R125). -/
def ldRegHl : Reg8 → Instr
  | .b => .ldBIndHl
  | .c => .ldCIndHl
  | .d => .ldDIndHl
  | .e => .ldEIndHl
  | .h => .ldHIndHl
  | .l => .ldLIndHl
  | .a => .ldAIndHl

/-- `LD (HL),r` (R126). -/
def ldHlReg : Reg8 → Instr
  | .b => .ldIndHlB
  | .c => .ldIndHlC
  | .d => .ldIndHlD
  | .e => .ldIndHlE
  | .h => .ldIndHlH
  | .l => .ldIndHlL
  | .a => .ldIndHlA

/-- `LD rr,nn` (R142). -/
def ldPair : RegPair → Word → Instr
  | .bc, nn => .ldBcNn nn
  | .de, nn => .ldDeNn nn
  | .hl, nn => .ldHlNn nn
  | .sp, nn => .ldSpNn nn

/-- `PUSH qq` (R146). -/
def push : StackPair → Instr
  | .bc => .pushBc
  | .de => .pushDe
  | .hl => .pushHl
  | .af => .pushAf

/-- `POP qq` (R147). -/
def pop : StackPair → Instr
  | .bc => .popBc
  | .de => .popDe
  | .hl => .popHl
  | .af => .popAf

/-- The eight ALU operations in their three operand forms (R148). -/
def alu : AluOp → AluSrc → Instr
  | .add, .loc (.reg .b) => .addAB
  | .add, .loc (.reg .c) => .addAC
  | .add, .loc (.reg .d) => .addAD
  | .add, .loc (.reg .e) => .addAE
  | .add, .loc (.reg .h) => .addAH
  | .add, .loc (.reg .l) => .addAL
  | .add, .loc .atHl => .addAIndHl
  | .add, .loc (.reg .a) => .addAA
  | .add, .imm n => .addAN n
  | .adc, .loc (.reg .b) => .adcAB
  | .adc, .loc (.reg .c) => .adcAC
  | .adc, .loc (.reg .d) => .adcAD
  | .adc, .loc (.reg .e) => .adcAE
  | .adc, .loc (.reg .h) => .adcAH
  | .adc, .loc (.reg .l) => .adcAL
  | .adc, .loc .atHl => .adcAIndHl
  | .adc, .loc (.reg .a) => .adcAA
  | .adc, .imm n => .adcAN n
  | .sub, .loc (.reg .b) => .subAB
  | .sub, .loc (.reg .c) => .subAC
  | .sub, .loc (.reg .d) => .subAD
  | .sub, .loc (.reg .e) => .subAE
  | .sub, .loc (.reg .h) => .subAH
  | .sub, .loc (.reg .l) => .subAL
  | .sub, .loc .atHl => .subAIndHl
  | .sub, .loc (.reg .a) => .subAA
  | .sub, .imm n => .subAN n
  | .sbc, .loc (.reg .b) => .sbcAB
  | .sbc, .loc (.reg .c) => .sbcAC
  | .sbc, .loc (.reg .d) => .sbcAD
  | .sbc, .loc (.reg .e) => .sbcAE
  | .sbc, .loc (.reg .h) => .sbcAH
  | .sbc, .loc (.reg .l) => .sbcAL
  | .sbc, .loc .atHl => .sbcAIndHl
  | .sbc, .loc (.reg .a) => .sbcAA
  | .sbc, .imm n => .sbcAN n
  | .and, .loc (.reg .b) => .andAB
  | .and, .loc (.reg .c) => .andAC
  | .and, .loc (.reg .d) => .andAD
  | .and, .loc (.reg .e) => .andAE
  | .and, .loc (.reg .h) => .andAH
  | .and, .loc (.reg .l) => .andAL
  | .and, .loc .atHl => .andAIndHl
  | .and, .loc (.reg .a) => .andAA
  | .and, .imm n => .andAN n
  | .xor, .loc (.reg .b) => .xorAB
  | .xor, .loc (.reg .c) => .xorAC
  | .xor, .loc (.reg .d) => .xorAD
  | .xor, .loc (.reg .e) => .xorAE
  | .xor, .loc (.reg .h) => .xorAH
  | .xor, .loc (.reg .l) => .xorAL
  | .xor, .loc .atHl => .xorAIndHl
  | .xor, .loc (.reg .a) => .xorAA
  | .xor, .imm n => .xorAN n
  | .or, .loc (.reg .b) => .orAB
  | .or, .loc (.reg .c) => .orAC
  | .or, .loc (.reg .d) => .orAD
  | .or, .loc (.reg .e) => .orAE
  | .or, .loc (.reg .h) => .orAH
  | .or, .loc (.reg .l) => .orAL
  | .or, .loc .atHl => .orAIndHl
  | .or, .loc (.reg .a) => .orAA
  | .or, .imm n => .orAN n
  | .cp, .loc (.reg .b) => .cpAB
  | .cp, .loc (.reg .c) => .cpAC
  | .cp, .loc (.reg .d) => .cpAD
  | .cp, .loc (.reg .e) => .cpAE
  | .cp, .loc (.reg .h) => .cpAH
  | .cp, .loc (.reg .l) => .cpAL
  | .cp, .loc .atHl => .cpAIndHl
  | .cp, .loc (.reg .a) => .cpAA
  | .cp, .imm n => .cpAN n

/-- `INC r` and `INC (HL)` (R157, R158). -/
def inc8 : Loc → Instr
  | .reg .b => .incB
  | .reg .c => .incC
  | .reg .d => .incD
  | .reg .e => .incE
  | .reg .h => .incH
  | .reg .l => .incL
  | .atHl => .incIndHl
  | .reg .a => .incA

/-- `DEC r` and `DEC (HL)` (R159, R160). -/
def dec8 : Loc → Instr
  | .reg .b => .decB
  | .reg .c => .decC
  | .reg .d => .decD
  | .reg .e => .decE
  | .reg .h => .decH
  | .reg .l => .decL
  | .atHl => .decIndHl
  | .reg .a => .decA

/-- `ADD HL,rr` (R165). -/
def addHl : RegPair → Instr
  | .bc => .addHlBc
  | .de => .addHlDe
  | .hl => .addHlHl
  | .sp => .addHlSp

/-- `INC rr` (R166). -/
def inc16 : RegPair → Instr
  | .bc => .incBc
  | .de => .incDe
  | .hl => .incHl
  | .sp => .incSp

/-- `DEC rr` (R167). -/
def dec16 : RegPair → Instr
  | .bc => .decBc
  | .de => .decDe
  | .hl => .decHl
  | .sp => .decSp

/-- The CB rotates and shifts (R174 to R181). -/
def shift : ShiftOp → Loc → Instr
  | .rlc, .reg .b => .rlcB
  | .rlc, .reg .c => .rlcC
  | .rlc, .reg .d => .rlcD
  | .rlc, .reg .e => .rlcE
  | .rlc, .reg .h => .rlcH
  | .rlc, .reg .l => .rlcL
  | .rlc, .atHl => .rlcIndHl
  | .rlc, .reg .a => .rlcA
  | .rrc, .reg .b => .rrcB
  | .rrc, .reg .c => .rrcC
  | .rrc, .reg .d => .rrcD
  | .rrc, .reg .e => .rrcE
  | .rrc, .reg .h => .rrcH
  | .rrc, .reg .l => .rrcL
  | .rrc, .atHl => .rrcIndHl
  | .rrc, .reg .a => .rrcA
  | .rl, .reg .b => .rlB
  | .rl, .reg .c => .rlC
  | .rl, .reg .d => .rlD
  | .rl, .reg .e => .rlE
  | .rl, .reg .h => .rlH
  | .rl, .reg .l => .rlL
  | .rl, .atHl => .rlIndHl
  | .rl, .reg .a => .rlA
  | .rr, .reg .b => .rrB
  | .rr, .reg .c => .rrC
  | .rr, .reg .d => .rrD
  | .rr, .reg .e => .rrE
  | .rr, .reg .h => .rrH
  | .rr, .reg .l => .rrL
  | .rr, .atHl => .rrIndHl
  | .rr, .reg .a => .rrA
  | .sla, .reg .b => .slaB
  | .sla, .reg .c => .slaC
  | .sla, .reg .d => .slaD
  | .sla, .reg .e => .slaE
  | .sla, .reg .h => .slaH
  | .sla, .reg .l => .slaL
  | .sla, .atHl => .slaIndHl
  | .sla, .reg .a => .slaA
  | .sra, .reg .b => .sraB
  | .sra, .reg .c => .sraC
  | .sra, .reg .d => .sraD
  | .sra, .reg .e => .sraE
  | .sra, .reg .h => .sraH
  | .sra, .reg .l => .sraL
  | .sra, .atHl => .sraIndHl
  | .sra, .reg .a => .sraA
  | .swap, .reg .b => .swapB
  | .swap, .reg .c => .swapC
  | .swap, .reg .d => .swapD
  | .swap, .reg .e => .swapE
  | .swap, .reg .h => .swapH
  | .swap, .reg .l => .swapL
  | .swap, .atHl => .swapIndHl
  | .swap, .reg .a => .swapA
  | .srl, .reg .b => .srlB
  | .srl, .reg .c => .srlC
  | .srl, .reg .d => .srlD
  | .srl, .reg .e => .srlE
  | .srl, .reg .h => .srlH
  | .srl, .reg .l => .srlL
  | .srl, .atHl => .srlIndHl
  | .srl, .reg .a => .srlA

/-- `BIT b,r` (R182). -/
def bitLoc (b : Fin 8) (x : Loc) : Instr :=
  match b, x with
  | 0, .reg .b => .bit0B
  | 0, .reg .c => .bit0C
  | 0, .reg .d => .bit0D
  | 0, .reg .e => .bit0E
  | 0, .reg .h => .bit0H
  | 0, .reg .l => .bit0L
  | 0, .atHl => .bit0IndHl
  | 0, .reg .a => .bit0A
  | 1, .reg .b => .bit1B
  | 1, .reg .c => .bit1C
  | 1, .reg .d => .bit1D
  | 1, .reg .e => .bit1E
  | 1, .reg .h => .bit1H
  | 1, .reg .l => .bit1L
  | 1, .atHl => .bit1IndHl
  | 1, .reg .a => .bit1A
  | 2, .reg .b => .bit2B
  | 2, .reg .c => .bit2C
  | 2, .reg .d => .bit2D
  | 2, .reg .e => .bit2E
  | 2, .reg .h => .bit2H
  | 2, .reg .l => .bit2L
  | 2, .atHl => .bit2IndHl
  | 2, .reg .a => .bit2A
  | 3, .reg .b => .bit3B
  | 3, .reg .c => .bit3C
  | 3, .reg .d => .bit3D
  | 3, .reg .e => .bit3E
  | 3, .reg .h => .bit3H
  | 3, .reg .l => .bit3L
  | 3, .atHl => .bit3IndHl
  | 3, .reg .a => .bit3A
  | 4, .reg .b => .bit4B
  | 4, .reg .c => .bit4C
  | 4, .reg .d => .bit4D
  | 4, .reg .e => .bit4E
  | 4, .reg .h => .bit4H
  | 4, .reg .l => .bit4L
  | 4, .atHl => .bit4IndHl
  | 4, .reg .a => .bit4A
  | 5, .reg .b => .bit5B
  | 5, .reg .c => .bit5C
  | 5, .reg .d => .bit5D
  | 5, .reg .e => .bit5E
  | 5, .reg .h => .bit5H
  | 5, .reg .l => .bit5L
  | 5, .atHl => .bit5IndHl
  | 5, .reg .a => .bit5A
  | 6, .reg .b => .bit6B
  | 6, .reg .c => .bit6C
  | 6, .reg .d => .bit6D
  | 6, .reg .e => .bit6E
  | 6, .reg .h => .bit6H
  | 6, .reg .l => .bit6L
  | 6, .atHl => .bit6IndHl
  | 6, .reg .a => .bit6A
  | 7, .reg .b => .bit7B
  | 7, .reg .c => .bit7C
  | 7, .reg .d => .bit7D
  | 7, .reg .e => .bit7E
  | 7, .reg .h => .bit7H
  | 7, .reg .l => .bit7L
  | 7, .atHl => .bit7IndHl
  | 7, .reg .a => .bit7A

/-- `RES b,r` (R183). -/
def resLoc (b : Fin 8) (x : Loc) : Instr :=
  match b, x with
  | 0, .reg .b => .res0B
  | 0, .reg .c => .res0C
  | 0, .reg .d => .res0D
  | 0, .reg .e => .res0E
  | 0, .reg .h => .res0H
  | 0, .reg .l => .res0L
  | 0, .atHl => .res0IndHl
  | 0, .reg .a => .res0A
  | 1, .reg .b => .res1B
  | 1, .reg .c => .res1C
  | 1, .reg .d => .res1D
  | 1, .reg .e => .res1E
  | 1, .reg .h => .res1H
  | 1, .reg .l => .res1L
  | 1, .atHl => .res1IndHl
  | 1, .reg .a => .res1A
  | 2, .reg .b => .res2B
  | 2, .reg .c => .res2C
  | 2, .reg .d => .res2D
  | 2, .reg .e => .res2E
  | 2, .reg .h => .res2H
  | 2, .reg .l => .res2L
  | 2, .atHl => .res2IndHl
  | 2, .reg .a => .res2A
  | 3, .reg .b => .res3B
  | 3, .reg .c => .res3C
  | 3, .reg .d => .res3D
  | 3, .reg .e => .res3E
  | 3, .reg .h => .res3H
  | 3, .reg .l => .res3L
  | 3, .atHl => .res3IndHl
  | 3, .reg .a => .res3A
  | 4, .reg .b => .res4B
  | 4, .reg .c => .res4C
  | 4, .reg .d => .res4D
  | 4, .reg .e => .res4E
  | 4, .reg .h => .res4H
  | 4, .reg .l => .res4L
  | 4, .atHl => .res4IndHl
  | 4, .reg .a => .res4A
  | 5, .reg .b => .res5B
  | 5, .reg .c => .res5C
  | 5, .reg .d => .res5D
  | 5, .reg .e => .res5E
  | 5, .reg .h => .res5H
  | 5, .reg .l => .res5L
  | 5, .atHl => .res5IndHl
  | 5, .reg .a => .res5A
  | 6, .reg .b => .res6B
  | 6, .reg .c => .res6C
  | 6, .reg .d => .res6D
  | 6, .reg .e => .res6E
  | 6, .reg .h => .res6H
  | 6, .reg .l => .res6L
  | 6, .atHl => .res6IndHl
  | 6, .reg .a => .res6A
  | 7, .reg .b => .res7B
  | 7, .reg .c => .res7C
  | 7, .reg .d => .res7D
  | 7, .reg .e => .res7E
  | 7, .reg .h => .res7H
  | 7, .reg .l => .res7L
  | 7, .atHl => .res7IndHl
  | 7, .reg .a => .res7A

/-- `SET b,r` (R184). -/
def setLoc (b : Fin 8) (x : Loc) : Instr :=
  match b, x with
  | 0, .reg .b => .set0B
  | 0, .reg .c => .set0C
  | 0, .reg .d => .set0D
  | 0, .reg .e => .set0E
  | 0, .reg .h => .set0H
  | 0, .reg .l => .set0L
  | 0, .atHl => .set0IndHl
  | 0, .reg .a => .set0A
  | 1, .reg .b => .set1B
  | 1, .reg .c => .set1C
  | 1, .reg .d => .set1D
  | 1, .reg .e => .set1E
  | 1, .reg .h => .set1H
  | 1, .reg .l => .set1L
  | 1, .atHl => .set1IndHl
  | 1, .reg .a => .set1A
  | 2, .reg .b => .set2B
  | 2, .reg .c => .set2C
  | 2, .reg .d => .set2D
  | 2, .reg .e => .set2E
  | 2, .reg .h => .set2H
  | 2, .reg .l => .set2L
  | 2, .atHl => .set2IndHl
  | 2, .reg .a => .set2A
  | 3, .reg .b => .set3B
  | 3, .reg .c => .set3C
  | 3, .reg .d => .set3D
  | 3, .reg .e => .set3E
  | 3, .reg .h => .set3H
  | 3, .reg .l => .set3L
  | 3, .atHl => .set3IndHl
  | 3, .reg .a => .set3A
  | 4, .reg .b => .set4B
  | 4, .reg .c => .set4C
  | 4, .reg .d => .set4D
  | 4, .reg .e => .set4E
  | 4, .reg .h => .set4H
  | 4, .reg .l => .set4L
  | 4, .atHl => .set4IndHl
  | 4, .reg .a => .set4A
  | 5, .reg .b => .set5B
  | 5, .reg .c => .set5C
  | 5, .reg .d => .set5D
  | 5, .reg .e => .set5E
  | 5, .reg .h => .set5H
  | 5, .reg .l => .set5L
  | 5, .atHl => .set5IndHl
  | 5, .reg .a => .set5A
  | 6, .reg .b => .set6B
  | 6, .reg .c => .set6C
  | 6, .reg .d => .set6D
  | 6, .reg .e => .set6E
  | 6, .reg .h => .set6H
  | 6, .reg .l => .set6L
  | 6, .atHl => .set6IndHl
  | 6, .reg .a => .set6A
  | 7, .reg .b => .set7B
  | 7, .reg .c => .set7C
  | 7, .reg .d => .set7D
  | 7, .reg .e => .set7E
  | 7, .reg .h => .set7H
  | 7, .reg .l => .set7L
  | 7, .atHl => .set7IndHl
  | 7, .reg .a => .set7A

/-- `JP cc,nn` (R186). -/
def jpCond : Cond → Word → Instr
  | .nz, nn => .jpNZNn nn
  | .z, nn => .jpZNn nn
  | .nc, nn => .jpNCNn nn
  | .c, nn => .jpCNn nn

/-- `JR cc,e` (R189). -/
def jrCond : Cond → Byte → Instr
  | .nz, e => .jrNZE e
  | .z, e => .jrZE e
  | .nc, e => .jrNCE e
  | .c, e => .jrCE e

/-- `CALL cc,nn` (R191). -/
def callCond : Cond → Word → Instr
  | .nz, nn => .callNZNn nn
  | .z, nn => .callZNn nn
  | .nc, nn => .callNCNn nn
  | .c, nn => .callCNn nn

/-- `RET cc` (R193). -/
def retCond : Cond → Instr
  | .nz => .retNZ
  | .z => .retZ
  | .nc => .retNC
  | .c => .retC

/-- `RST t` with `t = 8 * y` (R195). -/
def rst (y : Fin 8) : Instr :=
  match y with
  | 0 => .rst00
  | 1 => .rst08
  | 2 => .rst10
  | 3 => .rst18
  | 4 => .rst20
  | 5 => .rst28
  | 6 => .rst30
  | 7 => .rst38

end Instr

/-! ## Cycle costs (R105, R106, R118) -/

namespace Decode

/-- Costs of primary row 0x, taken and not taken (R105). The prefix has no cost of its own (R201). -/
def costRow0 : List (Nat × Nat) :=
  [(4, 4), (12, 12), (8, 8), (8, 8), (4, 4), (4, 4), (8, 8), (4, 4),
   (20, 20), (8, 8), (8, 8), (8, 8), (4, 4), (4, 4), (8, 8), (4, 4)]
/-- Costs of primary row 1x, taken and not taken (R105). The prefix has no cost of its own (R201). -/
def costRow1 : List (Nat × Nat) :=
  [(4, 4), (12, 12), (8, 8), (8, 8), (4, 4), (4, 4), (8, 8), (4, 4),
   (12, 12), (8, 8), (8, 8), (8, 8), (4, 4), (4, 4), (8, 8), (4, 4)]
/-- Costs of primary row 2x, taken and not taken (R105). The prefix has no cost of its own (R201). -/
def costRow2 : List (Nat × Nat) :=
  [(12, 8), (12, 12), (8, 8), (8, 8), (4, 4), (4, 4), (8, 8), (4, 4),
   (12, 8), (8, 8), (8, 8), (8, 8), (4, 4), (4, 4), (8, 8), (4, 4)]
/-- Costs of primary row 3x, taken and not taken (R105). The prefix has no cost of its own (R201). -/
def costRow3 : List (Nat × Nat) :=
  [(12, 8), (12, 12), (8, 8), (8, 8), (12, 12), (12, 12), (12, 12), (4, 4),
   (12, 8), (8, 8), (8, 8), (8, 8), (4, 4), (4, 4), (8, 8), (4, 4)]
/-- Costs of primary row 4x, taken and not taken (R105). The prefix has no cost of its own (R201). -/
def costRow4 : List (Nat × Nat) :=
  [(4, 4), (4, 4), (4, 4), (4, 4), (4, 4), (4, 4), (8, 8), (4, 4),
   (4, 4), (4, 4), (4, 4), (4, 4), (4, 4), (4, 4), (8, 8), (4, 4)]
/-- Costs of primary row 5x, taken and not taken (R105). The prefix has no cost of its own (R201). -/
def costRow5 : List (Nat × Nat) :=
  [(4, 4), (4, 4), (4, 4), (4, 4), (4, 4), (4, 4), (8, 8), (4, 4),
   (4, 4), (4, 4), (4, 4), (4, 4), (4, 4), (4, 4), (8, 8), (4, 4)]
/-- Costs of primary row 6x, taken and not taken (R105). The prefix has no cost of its own (R201). -/
def costRow6 : List (Nat × Nat) :=
  [(4, 4), (4, 4), (4, 4), (4, 4), (4, 4), (4, 4), (8, 8), (4, 4),
   (4, 4), (4, 4), (4, 4), (4, 4), (4, 4), (4, 4), (8, 8), (4, 4)]
/-- Costs of primary row 7x, taken and not taken (R105). The prefix has no cost of its own (R201). -/
def costRow7 : List (Nat × Nat) :=
  [(8, 8), (8, 8), (8, 8), (8, 8), (8, 8), (8, 8), (4, 4), (8, 8),
   (4, 4), (4, 4), (4, 4), (4, 4), (4, 4), (4, 4), (8, 8), (4, 4)]
/-- Costs of primary row 8x, taken and not taken (R105). The prefix has no cost of its own (R201). -/
def costRow8 : List (Nat × Nat) :=
  [(4, 4), (4, 4), (4, 4), (4, 4), (4, 4), (4, 4), (8, 8), (4, 4),
   (4, 4), (4, 4), (4, 4), (4, 4), (4, 4), (4, 4), (8, 8), (4, 4)]
/-- Costs of primary row 9x, taken and not taken (R105). The prefix has no cost of its own (R201). -/
def costRow9 : List (Nat × Nat) :=
  [(4, 4), (4, 4), (4, 4), (4, 4), (4, 4), (4, 4), (8, 8), (4, 4),
   (4, 4), (4, 4), (4, 4), (4, 4), (4, 4), (4, 4), (8, 8), (4, 4)]
/-- Costs of primary row Ax, taken and not taken (R105). The prefix has no cost of its own (R201). -/
def costRowA : List (Nat × Nat) :=
  [(4, 4), (4, 4), (4, 4), (4, 4), (4, 4), (4, 4), (8, 8), (4, 4),
   (4, 4), (4, 4), (4, 4), (4, 4), (4, 4), (4, 4), (8, 8), (4, 4)]
/-- Costs of primary row Bx, taken and not taken (R105). The prefix has no cost of its own (R201). -/
def costRowB : List (Nat × Nat) :=
  [(4, 4), (4, 4), (4, 4), (4, 4), (4, 4), (4, 4), (8, 8), (4, 4),
   (4, 4), (4, 4), (4, 4), (4, 4), (4, 4), (4, 4), (8, 8), (4, 4)]
/-- Costs of primary row Cx, taken and not taken (R105). The prefix has no cost of its own (R201). -/
def costRowC : List (Nat × Nat) :=
  [(20, 8), (12, 12), (16, 12), (16, 16), (24, 12), (16, 16), (8, 8), (16, 16),
   (20, 8), (16, 16), (16, 12), (0, 0), (24, 12), (24, 24), (8, 8), (16, 16)]
/-- Costs of primary row Dx, taken and not taken (R105). The prefix has no cost of its own (R201). -/
def costRowD : List (Nat × Nat) :=
  [(20, 8), (12, 12), (16, 12), (4, 4), (24, 12), (16, 16), (8, 8), (16, 16),
   (20, 8), (16, 16), (16, 12), (4, 4), (24, 12), (4, 4), (8, 8), (16, 16)]
/-- Costs of primary row Ex, taken and not taken (R105). The prefix has no cost of its own (R201). -/
def costRowE : List (Nat × Nat) :=
  [(12, 12), (12, 12), (8, 8), (4, 4), (4, 4), (16, 16), (8, 8), (16, 16),
   (16, 16), (4, 4), (16, 16), (4, 4), (4, 4), (4, 4), (8, 8), (16, 16)]
/-- Costs of primary row Fx, taken and not taken (R105). The prefix has no cost of its own (R201). -/
def costRowF : List (Nat × Nat) :=
  [(12, 12), (12, 12), (8, 8), (4, 4), (4, 4), (16, 16), (8, 8), (16, 16),
   (12, 12), (8, 8), (16, 16), (4, 4), (4, 4), (4, 4), (8, 8), (16, 16)]

/-- The cost rows of the primary map, in order. -/
def costRows : List (List (Nat × Nat)) :=
  [costRow0, costRow1, costRow2, costRow3, costRow4, costRow5, costRow6, costRow7,
   costRow8, costRow9, costRowA, costRowB, costRowC, costRowD, costRowE, costRowF]

/-- The cost of a CB instruction by its second byte: 8 cycles, or 16 with `(HL)`, but 12 for `BIT b,(HL)` (R106). -/
def cbCost (cb : Byte) : Nat :=
  if cb.extractLsb' 0 3 = 6 then
    if cb.extractLsb' 6 2 = 1 then 12 else 16
  else 8

end Decode

/-- The cycles of an instruction, when its condition holds and when it does not; the same twice for an instruction
without a condition (R105, R106, R118). -/
def Instr.cost (i : Instr) : Nat × Nat :=
  match encode i with
  | [0xCB, cb] => (Decode.cbCost cb, Decode.cbCost cb)
  | op :: _ => (Decode.costRows.getD (op.toNat / 16) []).getD (op.toNat % 16) (0, 0)
  | [] => (0, 0)

end Sys2Proof
end

