-- ==== Sys2Proof/Machine/Rotate.lean ====
section
/-! DEFINITION. Rotates and shifts: the four accumulator forms and the CB forms with x = 0
(spec/45_rotate_shift_bit.md R169 to R181). The shared forms stand first, then one meaning per opcode. -/

namespace Sys2Proof.Machine

/-- A rotate of A that always clears Z, 4 cycles (R169 to R172). -/
def rotateAcc (op : ShiftOp) (s : State) : Out :=
  finish 4 (s.onCpu fun c =>
    let r := rotateA8 op c.a c.flags.c
    { c with a := r.val }.setFlags r.fl)

/-- A CB rotate or shift of a register or of the byte at HL (R173 to R181). -/
def shiftLoc (op : ShiftOp) (x : Loc) (cost : Nat) (s : State) : Out :=
  modifyLoc x (fun v => (shift8 op v s.cpu.flags.c).val) s fun v s =>
    finish cost (s.onCpu fun c => c.setFlags (shift8 op v c.flags.c).fl)

/-- `RLCA` (R169). -/
def execRlca (s : State) : Out := rotateAcc .rlc s

/-- `RRCA` (R170). -/
def execRrca (s : State) : Out := rotateAcc .rrc s

/-- `RLA` (R171). -/
def execRla (s : State) : Out := rotateAcc .rl s

/-- `RRA` (R172). -/
def execRra (s : State) : Out := rotateAcc .rr s

/-- `RLC B` (R174). -/
def execRlcB (s : State) : Out := shiftLoc .rlc (.reg .b) 8 s

/-- `RLC C` (R174). -/
def execRlcC (s : State) : Out := shiftLoc .rlc (.reg .c) 8 s

/-- `RLC D` (R174). -/
def execRlcD (s : State) : Out := shiftLoc .rlc (.reg .d) 8 s

/-- `RLC E` (R174). -/
def execRlcE (s : State) : Out := shiftLoc .rlc (.reg .e) 8 s

/-- `RLC H` (R174). -/
def execRlcH (s : State) : Out := shiftLoc .rlc (.reg .h) 8 s

/-- `RLC L` (R174). -/
def execRlcL (s : State) : Out := shiftLoc .rlc (.reg .l) 8 s

/-- `RLC (HL)` (R174). -/
def execRlcIndHl (s : State) : Out := shiftLoc .rlc .atHl 16 s

/-- `RLC A` (R174). -/
def execRlcA (s : State) : Out := shiftLoc .rlc (.reg .a) 8 s

/-- `RRC B` (R175). -/
def execRrcB (s : State) : Out := shiftLoc .rrc (.reg .b) 8 s

/-- `RRC C` (R175). -/
def execRrcC (s : State) : Out := shiftLoc .rrc (.reg .c) 8 s

/-- `RRC D` (R175). -/
def execRrcD (s : State) : Out := shiftLoc .rrc (.reg .d) 8 s

/-- `RRC E` (R175). -/
def execRrcE (s : State) : Out := shiftLoc .rrc (.reg .e) 8 s

/-- `RRC H` (R175). -/
def execRrcH (s : State) : Out := shiftLoc .rrc (.reg .h) 8 s

/-- `RRC L` (R175). -/
def execRrcL (s : State) : Out := shiftLoc .rrc (.reg .l) 8 s

/-- `RRC (HL)` (R175). -/
def execRrcIndHl (s : State) : Out := shiftLoc .rrc .atHl 16 s

/-- `RRC A` (R175). -/
def execRrcA (s : State) : Out := shiftLoc .rrc (.reg .a) 8 s

/-- `RL B` (R176). -/
def execRlB (s : State) : Out := shiftLoc .rl (.reg .b) 8 s

/-- `RL C` (R176). -/
def execRlC (s : State) : Out := shiftLoc .rl (.reg .c) 8 s

/-- `RL D` (R176). -/
def execRlD (s : State) : Out := shiftLoc .rl (.reg .d) 8 s

/-- `RL E` (R176). -/
def execRlE (s : State) : Out := shiftLoc .rl (.reg .e) 8 s

/-- `RL H` (R176). -/
def execRlH (s : State) : Out := shiftLoc .rl (.reg .h) 8 s

/-- `RL L` (R176). -/
def execRlL (s : State) : Out := shiftLoc .rl (.reg .l) 8 s

/-- `RL (HL)` (R176). -/
def execRlIndHl (s : State) : Out := shiftLoc .rl .atHl 16 s

/-- `RL A` (R176). -/
def execRlA (s : State) : Out := shiftLoc .rl (.reg .a) 8 s

/-- `RR B` (R177). -/
def execRrB (s : State) : Out := shiftLoc .rr (.reg .b) 8 s

/-- `RR C` (R177). -/
def execRrC (s : State) : Out := shiftLoc .rr (.reg .c) 8 s

/-- `RR D` (R177). -/
def execRrD (s : State) : Out := shiftLoc .rr (.reg .d) 8 s

/-- `RR E` (R177). -/
def execRrE (s : State) : Out := shiftLoc .rr (.reg .e) 8 s

/-- `RR H` (R177). -/
def execRrH (s : State) : Out := shiftLoc .rr (.reg .h) 8 s

/-- `RR L` (R177). -/
def execRrL (s : State) : Out := shiftLoc .rr (.reg .l) 8 s

/-- `RR (HL)` (R177). -/
def execRrIndHl (s : State) : Out := shiftLoc .rr .atHl 16 s

/-- `RR A` (R177). -/
def execRrA (s : State) : Out := shiftLoc .rr (.reg .a) 8 s

/-- `SLA B` (R178). -/
def execSlaB (s : State) : Out := shiftLoc .sla (.reg .b) 8 s

/-- `SLA C` (R178). -/
def execSlaC (s : State) : Out := shiftLoc .sla (.reg .c) 8 s

/-- `SLA D` (R178). -/
def execSlaD (s : State) : Out := shiftLoc .sla (.reg .d) 8 s

/-- `SLA E` (R178). -/
def execSlaE (s : State) : Out := shiftLoc .sla (.reg .e) 8 s

/-- `SLA H` (R178). -/
def execSlaH (s : State) : Out := shiftLoc .sla (.reg .h) 8 s

/-- `SLA L` (R178). -/
def execSlaL (s : State) : Out := shiftLoc .sla (.reg .l) 8 s

/-- `SLA (HL)` (R178). -/
def execSlaIndHl (s : State) : Out := shiftLoc .sla .atHl 16 s

/-- `SLA A` (R178). -/
def execSlaA (s : State) : Out := shiftLoc .sla (.reg .a) 8 s

/-- `SRA B` (R179). -/
def execSraB (s : State) : Out := shiftLoc .sra (.reg .b) 8 s

/-- `SRA C` (R179). -/
def execSraC (s : State) : Out := shiftLoc .sra (.reg .c) 8 s

/-- `SRA D` (R179). -/
def execSraD (s : State) : Out := shiftLoc .sra (.reg .d) 8 s

/-- `SRA E` (R179). -/
def execSraE (s : State) : Out := shiftLoc .sra (.reg .e) 8 s

/-- `SRA H` (R179). -/
def execSraH (s : State) : Out := shiftLoc .sra (.reg .h) 8 s

/-- `SRA L` (R179). -/
def execSraL (s : State) : Out := shiftLoc .sra (.reg .l) 8 s

/-- `SRA (HL)` (R179). -/
def execSraIndHl (s : State) : Out := shiftLoc .sra .atHl 16 s

/-- `SRA A` (R179). -/
def execSraA (s : State) : Out := shiftLoc .sra (.reg .a) 8 s

/-- `SWAP B` (R180). -/
def execSwapB (s : State) : Out := shiftLoc .swap (.reg .b) 8 s

/-- `SWAP C` (R180). -/
def execSwapC (s : State) : Out := shiftLoc .swap (.reg .c) 8 s

/-- `SWAP D` (R180). -/
def execSwapD (s : State) : Out := shiftLoc .swap (.reg .d) 8 s

/-- `SWAP E` (R180). -/
def execSwapE (s : State) : Out := shiftLoc .swap (.reg .e) 8 s

/-- `SWAP H` (R180). -/
def execSwapH (s : State) : Out := shiftLoc .swap (.reg .h) 8 s

/-- `SWAP L` (R180). -/
def execSwapL (s : State) : Out := shiftLoc .swap (.reg .l) 8 s

/-- `SWAP (HL)` (R180). -/
def execSwapIndHl (s : State) : Out := shiftLoc .swap .atHl 16 s

/-- `SWAP A` (R180). -/
def execSwapA (s : State) : Out := shiftLoc .swap (.reg .a) 8 s

/-- `SRL B` (R181). -/
def execSrlB (s : State) : Out := shiftLoc .srl (.reg .b) 8 s

/-- `SRL C` (R181). -/
def execSrlC (s : State) : Out := shiftLoc .srl (.reg .c) 8 s

/-- `SRL D` (R181). -/
def execSrlD (s : State) : Out := shiftLoc .srl (.reg .d) 8 s

/-- `SRL E` (R181). -/
def execSrlE (s : State) : Out := shiftLoc .srl (.reg .e) 8 s

/-- `SRL H` (R181). -/
def execSrlH (s : State) : Out := shiftLoc .srl (.reg .h) 8 s

/-- `SRL L` (R181). -/
def execSrlL (s : State) : Out := shiftLoc .srl (.reg .l) 8 s

/-- `SRL (HL)` (R181). -/
def execSrlIndHl (s : State) : Out := shiftLoc .srl .atHl 16 s

/-- `SRL A` (R181). -/
def execSrlA (s : State) : Out := shiftLoc .srl (.reg .a) 8 s

end Sys2Proof.Machine
end

