-- ==== Sys2Proof/Machine/CpuControl.lean ====
section
/-! DEFINITION. CPU control (spec/47_cpu_control.md R196 to R202): NOP, HALT, STOP, DI, EI, the CB prefix and the
undefined opcodes. -/

namespace Sys2Proof.Machine

/-- The CB instruction of a second byte, by its fields `x`, `y` and `z` (spec/30_encoding.md R101, spec/45_rotate_shift_bit.md
R173): 8 cycles, with `(HL)` 16, but 12 for BIT. -/
def cbByFields (cb : Byte) (s : State) : Out :=
  let y := cb.extractLsb' 3 3
  let x := Loc.ofField (cb.extractLsb' 0 3)
  let cost := if x = .atHl then 16 else 8
  if cb.extractLsb' 6 2 = 0 then shiftLoc (ShiftOp.ofField y) x cost s
  else if cb.extractLsb' 6 2 = 1 then bitLoc y.toFin x (if x = .atHl then 12 else 8) s
  else if cb.extractLsb' 6 2 = 2 then resLoc y.toFin x cost s
  else setLoc y.toFin x cost s

/-- `PREFIX CB` (R201). -/
def execPrefixCb (cb : Byte) (s : State) : Out := cbByFields cb s

/-- `(undefined)` (R202). -/
def execUndefined (op : Byte) (s : State) : Out := finish 4 { s with undefLog := s.undefLog ++ [(op, s.cpu.pc - 1)] }

/-- `NOP` (R196). -/
def execNop (s : State) : Out := finish 4 s

/-- `STOP` (R198). -/
def execStop (s : State) : Out := finish 4 (s.onCpu fun c => { c with stopped := true, pc := c.pc + 1 })

/-- `HALT` (R197). -/
def execHalt (s : State) : Out := finish 4 (s.onCpu fun c => { c with halted := true })

/-- `DI` (R199). -/
def execDi (s : State) : Out := finish 4 (s.onCpu fun c => { c with diPending := 2 })

/-- `EI` (R200). -/
def execEi (s : State) : Out := finish 4 (s.onCpu fun c => { c with eiPending := 2 })

end Sys2Proof.Machine
end

