-- ==== Sys2Proof/Machine/Load16.lean ====
section
/-! DEFINITION. The 16-bit loads and the stack (spec/42_load16_stack.md R142 to R147). The shared forms
stand first, then one meaning per opcode. -/

namespace Sys2Proof.Machine

/-- `rr <- nn`, 12 cycles (R142). -/
def ldPairImm (p : RegPair) (nn : Word) (s : State) : Out := finish 12 (s.onCpu fun c => c.setPair p nn)

/-- `HL <- SP + sext_16(e)` with the flags of the unsigned low-byte addition, 12 cycles; SP is unchanged (R144). -/
def ldHlSpOffset (e : Byte) (s : State) : Out :=
  finish 12 (s.onCpu fun c =>
    let r := addSp16 c.sp e
    (c.setPair .hl r.val).setFlags r.fl)

/-- `push16(qq)`, 16 cycles (R146). -/
def pushPair (q : StackPair) (s : State) : Out := push16 (s.cpu.stackPair q) s (finish 16)

/-- `qq <- pop16()`, 12 cycles; `POP AF` drops the low nibble of F (R147). -/
def popPair (q : StackPair) (s : State) : Out :=
  pop16 s fun v s => finish 12 (s.onCpu fun c => c.setStackPair q v)

/-- `LD BC,nn` (R142). -/
def execLdBcNn (nn : Word) (s : State) : Out := ldPairImm .bc nn s

/-- `LD (nn),SP` (R145). -/
def execLdIndNnSp (nn : Word) (s : State) : Out := withWrite16 nn s.cpu.sp s (finish 20)

/-- `LD DE,nn` (R142). -/
def execLdDeNn (nn : Word) (s : State) : Out := ldPairImm .de nn s

/-- `LD HL,nn` (R142). -/
def execLdHlNn (nn : Word) (s : State) : Out := ldPairImm .hl nn s

/-- `LD SP,nn` (R142). -/
def execLdSpNn (nn : Word) (s : State) : Out := ldPairImm .sp nn s

/-- `LD HL,SP+e` (R144). -/
def execLdHlSpE (e : Byte) (s : State) : Out := ldHlSpOffset e s

/-- `POP BC` (R147). -/
def execPopBc (s : State) : Out := popPair .bc s

/-- `PUSH BC` (R146). -/
def execPushBc (s : State) : Out := pushPair .bc s

/-- `POP DE` (R147). -/
def execPopDe (s : State) : Out := popPair .de s

/-- `PUSH DE` (R146). -/
def execPushDe (s : State) : Out := pushPair .de s

/-- `POP HL` (R147). -/
def execPopHl (s : State) : Out := popPair .hl s

/-- `PUSH HL` (R146). -/
def execPushHl (s : State) : Out := pushPair .hl s

/-- `POP AF` (R147). -/
def execPopAf (s : State) : Out := popPair .af s

/-- `PUSH AF` (R146). -/
def execPushAf (s : State) : Out := pushPair .af s

/-- `LD SP,HL` (R143). -/
def execLdSpHl (s : State) : Out := finish 8 (s.onCpu fun c => { c with sp := c.hl })

end Sys2Proof.Machine
end

