-- ==== Sys2Proof/Machine/Load8.lean ====
section
/-! DEFINITION. The 8-bit loads and stores (spec/41_load8.md R123 to R141). None writes a flag. The
shared forms stand first, then one meaning per opcode. -/

namespace Sys2Proof.Machine

/-- `reg[y] <- reg[z]`, 4 cycles (R123). -/
def ldRegReg (dst src : Reg8) (s : State) : Out := finish 4 (s.onCpu fun c => c.setReg dst (c.reg src))

/-- `reg[y] <- n`, 8 cycles (R124). -/
def ldRegImm (dst : Reg8) (n : Byte) (s : State) : Out := finish 8 (s.onCpu fun c => c.setReg dst n)

/-- `reg[y] <- MemRead(HL, 1)`, 8 cycles; the read happens first (R125). -/
def ldRegHl (dst : Reg8) (s : State) : Out :=
  withRead s.cpu.hl s fun v => finish 8 (s.onCpu fun c => c.setReg dst v)

/-- `MemWrite(HL, 1, reg[z])`, 8 cycles (R126). -/
def ldHlReg (r : Reg8) (s : State) : Out := withWrite s.cpu.hl (s.cpu.reg r) s (finish 8)

/-- `A <- MemRead(HL, 1)`, then HL changed by `delta`, wrapping, 8 cycles (R128, R129). -/
def ldAHlStep (delta : Word) (s : State) : Out :=
  withRead s.cpu.hl s fun v =>
    finish 8 (s.onCpu fun c => { c.setPair .hl (c.hl + delta) with a := v })

/-- `MemWrite(HL, 1, A)`, then HL changed by `delta`, wrapping, 8 cycles (R130, R131). -/
def stAHlStep (delta : Word) (s : State) : Out :=
  withWrite s.cpu.hl s.cpu.a s fun s => finish 8 (s.onCpu fun c => c.setPair .hl (c.hl + delta))

/-- `A <- MemRead(addr, 1)` (R132, R133, R136, R138, R140). -/
def ldAFrom (addr : Word) (cost : Nat) (s : State) : Out :=
  withRead addr s fun v => finish cost (s.onCpu fun c => { c with a := v })

/-- `MemWrite(addr, 1, A)` (R134, R135, R137, R139, R141). -/
def stAAt (addr : Word) (cost : Nat) (s : State) : Out := withWrite addr s.cpu.a s (finish cost)

/-- `LD B,n` (R124). -/
def execLdBN (n : Byte) (s : State) : Out := ldRegImm .b n s

/-- `LD C,n` (R124). -/
def execLdCN (n : Byte) (s : State) : Out := ldRegImm .c n s

/-- `LD D,n` (R124). -/
def execLdDN (n : Byte) (s : State) : Out := ldRegImm .d n s

/-- `LD E,n` (R124). -/
def execLdEN (n : Byte) (s : State) : Out := ldRegImm .e n s

/-- `LD H,n` (R124). -/
def execLdHN (n : Byte) (s : State) : Out := ldRegImm .h n s

/-- `LD L,n` (R124). -/
def execLdLN (n : Byte) (s : State) : Out := ldRegImm .l n s

/-- `LD (HL),n` (R127). -/
def execLdIndHlN (n : Byte) (s : State) : Out := withWrite s.cpu.hl n s (finish 12)

/-- `LD A,n` (R124). -/
def execLdAN (n : Byte) (s : State) : Out := ldRegImm .a n s

/-- `LDH (a8),A` (R139). -/
def execLdhIndA8A (a8 : Byte) (s : State) : Out := stAAt (ioPage a8) 12 s

/-- `LD (nn),A` (R137). -/
def execLdIndNnA (nn : Word) (s : State) : Out := stAAt nn 16 s

/-- `LDH A,(a8)` (R138). -/
def execLdhAIndA8 (a8 : Byte) (s : State) : Out := ldAFrom (ioPage a8) 12 s

/-- `LD A,(nn)` (R136). -/
def execLdAIndNn (nn : Word) (s : State) : Out := ldAFrom nn 16 s

/-- `LD (BC),A` (R134). -/
def execLdIndBcA (s : State) : Out := stAAt s.cpu.bc 8 s

/-- `LD A,(BC)` (R132). -/
def execLdAIndBc (s : State) : Out := ldAFrom s.cpu.bc 8 s

/-- `LD (DE),A` (R135). -/
def execLdIndDeA (s : State) : Out := stAAt s.cpu.de 8 s

/-- `LD A,(DE)` (R133). -/
def execLdAIndDe (s : State) : Out := ldAFrom s.cpu.de 8 s

/-- `LD (HL+),A` (R130). -/
def execLdIndHlIncA (s : State) : Out := stAHlStep 1 s

/-- `LD A,(HL+)` (R128). -/
def execLdAIndHlInc (s : State) : Out := ldAHlStep 1 s

/-- `LD (HL-),A` (R131). -/
def execLdIndHlDecA (s : State) : Out := stAHlStep (-1) s

/-- `LD A,(HL-)` (R129). -/
def execLdAIndHlDec (s : State) : Out := ldAHlStep (-1) s

/-- `LD B,B` (R123). -/
def execLdBB (s : State) : Out := ldRegReg .b .b s

/-- `LD B,C` (R123). -/
def execLdBC (s : State) : Out := ldRegReg .b .c s

/-- `LD B,D` (R123). -/
def execLdBD (s : State) : Out := ldRegReg .b .d s

/-- `LD B,E` (R123). -/
def execLdBE (s : State) : Out := ldRegReg .b .e s

/-- `LD B,H` (R123). -/
def execLdBH (s : State) : Out := ldRegReg .b .h s

/-- `LD B,L` (R123). -/
def execLdBL (s : State) : Out := ldRegReg .b .l s

/-- `LD B,(HL)` (R125). -/
def execLdBIndHl (s : State) : Out := ldRegHl .b s

/-- `LD B,A` (R123). -/
def execLdBA (s : State) : Out := ldRegReg .b .a s

/-- `LD C,B` (R123). -/
def execLdCB (s : State) : Out := ldRegReg .c .b s

/-- `LD C,C` (R123). -/
def execLdCC (s : State) : Out := ldRegReg .c .c s

/-- `LD C,D` (R123). -/
def execLdCD (s : State) : Out := ldRegReg .c .d s

/-- `LD C,E` (R123). -/
def execLdCE (s : State) : Out := ldRegReg .c .e s

/-- `LD C,H` (R123). -/
def execLdCH (s : State) : Out := ldRegReg .c .h s

/-- `LD C,L` (R123). -/
def execLdCL (s : State) : Out := ldRegReg .c .l s

/-- `LD C,(HL)` (R125). -/
def execLdCIndHl (s : State) : Out := ldRegHl .c s

/-- `LD C,A` (R123). -/
def execLdCA (s : State) : Out := ldRegReg .c .a s

/-- `LD D,B` (R123). -/
def execLdDB (s : State) : Out := ldRegReg .d .b s

/-- `LD D,C` (R123). -/
def execLdDC (s : State) : Out := ldRegReg .d .c s

/-- `LD D,D` (R123). -/
def execLdDD (s : State) : Out := ldRegReg .d .d s

/-- `LD D,E` (R123). -/
def execLdDE (s : State) : Out := ldRegReg .d .e s

/-- `LD D,H` (R123). -/
def execLdDH (s : State) : Out := ldRegReg .d .h s

/-- `LD D,L` (R123). -/
def execLdDL (s : State) : Out := ldRegReg .d .l s

/-- `LD D,(HL)` (R125). -/
def execLdDIndHl (s : State) : Out := ldRegHl .d s

/-- `LD D,A` (R123). -/
def execLdDA (s : State) : Out := ldRegReg .d .a s

/-- `LD E,B` (R123). -/
def execLdEB (s : State) : Out := ldRegReg .e .b s

/-- `LD E,C` (R123). -/
def execLdEC (s : State) : Out := ldRegReg .e .c s

/-- `LD E,D` (R123). -/
def execLdED (s : State) : Out := ldRegReg .e .d s

/-- `LD E,E` (R123). -/
def execLdEE (s : State) : Out := ldRegReg .e .e s

/-- `LD E,H` (R123). -/
def execLdEH (s : State) : Out := ldRegReg .e .h s

/-- `LD E,L` (R123). -/
def execLdEL (s : State) : Out := ldRegReg .e .l s

/-- `LD E,(HL)` (R125). -/
def execLdEIndHl (s : State) : Out := ldRegHl .e s

/-- `LD E,A` (R123). -/
def execLdEA (s : State) : Out := ldRegReg .e .a s

/-- `LD H,B` (R123). -/
def execLdHB (s : State) : Out := ldRegReg .h .b s

/-- `LD H,C` (R123). -/
def execLdHC (s : State) : Out := ldRegReg .h .c s

/-- `LD H,D` (R123). -/
def execLdHD (s : State) : Out := ldRegReg .h .d s

/-- `LD H,E` (R123). -/
def execLdHE (s : State) : Out := ldRegReg .h .e s

/-- `LD H,H` (R123). -/
def execLdHH (s : State) : Out := ldRegReg .h .h s

/-- `LD H,L` (R123). -/
def execLdHL (s : State) : Out := ldRegReg .h .l s

/-- `LD H,(HL)` (R125). -/
def execLdHIndHl (s : State) : Out := ldRegHl .h s

/-- `LD H,A` (R123). -/
def execLdHA (s : State) : Out := ldRegReg .h .a s

/-- `LD L,B` (R123). -/
def execLdLB (s : State) : Out := ldRegReg .l .b s

/-- `LD L,C` (R123). -/
def execLdLC (s : State) : Out := ldRegReg .l .c s

/-- `LD L,D` (R123). -/
def execLdLD (s : State) : Out := ldRegReg .l .d s

/-- `LD L,E` (R123). -/
def execLdLE (s : State) : Out := ldRegReg .l .e s

/-- `LD L,H` (R123). -/
def execLdLH (s : State) : Out := ldRegReg .l .h s

/-- `LD L,L` (R123). -/
def execLdLL (s : State) : Out := ldRegReg .l .l s

/-- `LD L,(HL)` (R125). -/
def execLdLIndHl (s : State) : Out := ldRegHl .l s

/-- `LD L,A` (R123). -/
def execLdLA (s : State) : Out := ldRegReg .l .a s

/-- `LD (HL),B` (R126). -/
def execLdIndHlB (s : State) : Out := ldHlReg .b s

/-- `LD (HL),C` (R126). -/
def execLdIndHlC (s : State) : Out := ldHlReg .c s

/-- `LD (HL),D` (R126). -/
def execLdIndHlD (s : State) : Out := ldHlReg .d s

/-- `LD (HL),E` (R126). -/
def execLdIndHlE (s : State) : Out := ldHlReg .e s

/-- `LD (HL),H` (R126). -/
def execLdIndHlH (s : State) : Out := ldHlReg .h s

/-- `LD (HL),L` (R126). -/
def execLdIndHlL (s : State) : Out := ldHlReg .l s

/-- `LD (HL),A` (R126). -/
def execLdIndHlA (s : State) : Out := ldHlReg .a s

/-- `LD A,B` (R123). -/
def execLdAB (s : State) : Out := ldRegReg .a .b s

/-- `LD A,C` (R123). -/
def execLdAC (s : State) : Out := ldRegReg .a .c s

/-- `LD A,D` (R123). -/
def execLdAD (s : State) : Out := ldRegReg .a .d s

/-- `LD A,E` (R123). -/
def execLdAE (s : State) : Out := ldRegReg .a .e s

/-- `LD A,H` (R123). -/
def execLdAH (s : State) : Out := ldRegReg .a .h s

/-- `LD A,L` (R123). -/
def execLdAL (s : State) : Out := ldRegReg .a .l s

/-- `LD A,(HL)` (R125). -/
def execLdAIndHl (s : State) : Out := ldRegHl .a s

/-- `LD A,A` (R123). -/
def execLdAA (s : State) : Out := ldRegReg .a .a s

/-- `LD (C),A` (R141). -/
def execLdIndCA (s : State) : Out := stAAt (ioPage s.cpu.c) 8 s

/-- `LD A,(C)` (R140). -/
def execLdAIndC (s : State) : Out := ldAFrom (ioPage s.cpu.c) 8 s

end Sys2Proof.Machine
end

