-- ==== Sys2Proof/Machine/Engine.lean ====
section
/-! DEFINITION. The step engine: the phases of the CPU step (spec/40_execution_engine.md R114), the interrupt check
(spec/60_exceptions.md R206 to R209), the fetch of an instruction (R116, R117), the timer and PPU ticks that follow a
CPU step (R111), and the placing of an instruction where the machine fetches next. Step.lean closes the loop with
`exec`. -/

namespace Sys2Proof.Machine

/-! ## Phase 1: the pending EI and DI -/

/-- The `EI` half of `ime_commit` (R206). -/
def Cpu.commitEi (c : Cpu) : Cpu :=
  if c.eiPending = 1 then { c with ime := true, eiPending := 0 }
  else if c.eiPending = 2 then { c with eiPending := 1 }
  else c

/-- The `DI` half of `ime_commit` (R206). -/
def Cpu.commitDi (c : Cpu) : Cpu :=
  if c.diPending = 1 then { c with ime := false, diPending := 0 }
  else if c.diPending = 2 then { c with diPending := 1 }
  else c

/-- `ime_commit()`: `DI` is applied last and wins (R206). -/
def imeCommit (s : State) : State := s.onCpu fun c => c.commitEi.commitDi

/-! ## Phase 2: the interrupt check -/

/-- A pending interrupt ends HALT, whatever IME holds (R207). -/
def wakeFromHalt (s : State) : State :=
  if s.irq.pending = 0 then s else s.onCpu fun c => { c with halted := false }

/-- Under `HaltUntilJoypad`, a joypad request ends STOP, whatever IE and IME hold (R208). -/
def wakeFromStop (s : State) : State :=
  if s.settings.stopMode = .haltUntilJoypad ∧ s.irq.ifr.getLsbD 4 = true then s.onCpu fun c => { c with stopped := false }
  else s

/-- `interrupt_check()`: wake, then take the lowest pending interrupt if IME is set (R207 to R210). `k` learns whether
one was taken. -/
def interruptCheck (s : State) (k : Bool → State → Out) : Out :=
  let s1 := wakeFromStop (wakeFromHalt s)
  if s1.cpu.ime = true ∧ s1.irq.pending ≠ 0 then
    takeInterrupt (lowestPending s1.irq.pending) s1 (k true)
  else k false s1

/-! ## Phase 3: fetch and run, or idle -/

/-- The CPU fetches nothing in phase 3 (R114, R115, R198). -/
def State.idle (s : State) : Bool :=
  s.cpu.halted || (s.cpu.stopped && decide (s.settings.stopMode = .haltUntilJoypad))

/-- Fetch an instruction: the opcode, then the bytes its entry of the map asks for, in address order (R116, R117). -/
def fetchInstr (s : State) (k : Instr → State → Out) : Out :=
  fetch8 s fun op s =>
    match Decode.primary op with
    | .done i => k i s
    | .imm8 f => fetch8 s fun n s => k (f n) s
    | .imm16 f => fetch16 s fun nn s => k (f nn) s

/-- `cycles <- 0` (R114), and no frame completed yet in this step (R236). -/
def State.beginStep (s : State) : State := { s with cycles := 0, frameDone := false }

/-- Phase 3 of the CPU step (R114): `run` gives the instruction its meaning. -/
def fetchPhase (run : Instr → State → Out) (s : State) : Out :=
  if s.idle then finish 4 s else fetchInstr s run

/-- `cpu_step()` (R114). -/
def cpuStep (run : Instr → State → Out) (s : State) : Out :=
  interruptCheck (imeCommit s.beginStep) fun dispatched s =>
    if dispatched && s.settings.dispatchEndsStep then .next s else fetchPhase run s

/-! ## The timer and the PPU after the CPU step -/

/-- `timer_tick()` (R216): an overflow requests interrupt 2. -/
def timerTick (s : State) : State :=
  let r := s.timer.tick
  { s with timer := r.1, irq := if r.2 then s.irq.request 2 else s.irq }

/-- `ppu_tick()` (R219): entering line 144 requests interrupt 0 (R221), the STAT line interrupt 1 (R231). -/
def ppuTick (s : State) : State :=
  let r := s.ppu.tick s.settings s.mem
  let q := if r.2.vblank then s.irq.request 0 else s.irq
  { s with
    ppu := r.1
    irq := if r.2.stat then q.request 1 else q
    frameDone := s.frameDone || r.2.frameEnd }

/-- `repeat n times: tick`. -/
def ticks (tick : State → State) : Nat → State → State
  | 0, s => s
  | n + 1, s => ticks tick n (tick s)

/-- The timer, then the PPU, advance by the cycles of the CPU step (R86, R111). -/
def advance (s : State) : State := ticks ppuTick s.cycles (ticks timerTick s.cycles s)

/-- `machine_step()` (R111). -/
def machineStep (run : Instr → State → Out) (s : State) : Out := onNext advance (cpuStep run s)

/-! ## Placing an instruction where the machine fetches next -/

/-- A blank 32 KiB cartridge of type 0x00, for a program loaded into a machine that has none. -/
def blankImage : RomImage where
  length := 0x8000
  cells := []

/-- A byte can be placed at this address and fetched from it: the overlay, a cartridge that is not banked, or plain
storage. -/
def holdsCode (addr : Word) (s : State) : Bool :=
  match ownerOf addr with
  | .bootOrCart | .cartRom =>
    match s.cart with
    | .absent | .romOnly _ => true
    | .banked _ _ => decide (ownerOf addr = .bootOrCart) && s.boot.active
  | .vram | .wram | .echo | .oam | .hram => true
  | .io => decide (ioRegOf addr = .storage)
  | .extRam | .unusable | .ie => false

/-- Place one byte where a fetch from this address reads it. -/
def placeByte (addr : Word) (v : Byte) (s : State) : State :=
  match ownerOf addr with
  | .bootOrCart | .cartRom =>
    if ownerOf addr = .bootOrCart ∧ s.boot.active = true then
      { s with settings := { s.settings with bootImage := s.settings.bootImage.setIfInBounds addr.toNat v } }
    else
      match s.cart with
      | .absent => { s with cart := .romOnly (blankImage.poke addr.toNat v) }
      | .romOnly img => { s with cart := .romOnly (img.poke addr.toNat v) }
      | .banked _ _ => s
  | .vram | .wram | .oam | .hram | .io => { s with mem := s.mem.write addr.toNat v }
  | .echo => { s with mem := s.mem.write (addr.toNat - 0x2000) v }
  | .extRam | .unusable | .ie => s

/-- The machine with nothing between it and its next fetch: not halted, not frozen by STOP, and no interrupt taken by
the coming check. -/
def readyToFetch (s : State) : State :=
  let s1 := s.onCpu fun c =>
    { c with halted := false, stopped := c.stopped && decide (s.settings.stopMode = .flagOnly) }
  if (imeCommit s1).cpu.ime = true ∧ s1.irq.pending ≠ 0 then
    s1.onCpu fun c => { c with ime := false, eiPending := 0 }
  else s1

/-- Where three bytes can be placed for the next fetch: at PC, or at 0xC000 (WRAM) when the bytes at PC are not ones
that can be placed. -/
def codeAddress (s : State) : Word :=
  if holdsCode s.cpu.pc s && holdsCode (s.cpu.pc + 1) s && holdsCode (s.cpu.pc + 2) s then s.cpu.pc else 0xC000

/-- The bytes placed one after another from an address on. -/
def placeBytes (addr : Word) (bytes : List Byte) (s : State) : State :=
  match bytes with
  | [] => s
  | v :: rest => placeBytes (addr + 1) rest (placeByte addr v s)

/-- `s` with these bytes stored where the next step fetches. -/
def placeInstr (bytes : List Byte) (s : State) : State :=
  let s1 := readyToFetch s
  let at0 := codeAddress s1
  placeBytes at0 bytes (s1.jump at0)

end Sys2Proof.Machine
end

