-- ==== Sys2Proof/Machine/Step.lean ====
section
/-! DEFINITION. The machine's step: one `machine_step()` of spec/40_execution_engine.md R111, and a program's first
instruction placed where it fetches. -/

namespace Sys2Proof.Machine

/-- One machine step: a CPU step, then the timer and the PPU by the same number of cycles (R111). -/
def step (s : State) : Host.Outcome State Fault Refusal := machineStep exec s

/-- `s` with the instruction that spec/opcode_table.json numbers `w` on `nbits` bits stored where `step` fetches its
next instruction (assumption 4). -/
def State.withFetchWord (s : State) (nbits w : Nat) : State := placeInstr (tableBytes nbits w) s

end Sys2Proof.Machine
end

