-- ==== Sys2Proof/Machine/HostActions.lean ====
section
/-! DEFINITION. What the host can do between machine steps (spec/40_execution_engine.md R112, spec/60_exceptions.md R233,
R235, spec/70_reset_and_hazards.md R240), and what it can observe. -/

namespace Sys2Proof.Machine

/-- `set_input(dirs, buttons)` (R233): both nibbles are stored, and a change of either requests interrupt 4. -/
def State.setInput (s : State) (dirs buttons : BitVec 4) : State :=
  let s1 := { s with joypad := { s.joypad with dirs := dirs, buttons := buttons } }
  if dirs = s.joypad.dirs ∧ buttons = s.joypad.buttons then s1 else { s1 with irq := s1.irq.request 4 }

/-- One action of the host. -/
inductive HostAction where
  /-- `machine_step()`. -/
  | machineStep
  /-- `set_input(dirs, buttons)`. -/
  | setInput (dirs buttons : BitVec 4)
  /-- A full reset (R240). -/
  | fullReset (p : PowerOn)
  deriving DecidableEq, Repr

/-- The effect of one action. -/
def HostAction.run (x : HostAction) (s : State) : Out :=
  match x with
  | .machineStep => step s
  | .setInput dirs buttons => .next (s.setInput dirs buttons)
  | .fullReset p => State.powerOn p

/-- A run: actions in order, up to the first fault or refusal. -/
def runHost : List HostAction → State → Out
  | [], s => .next s
  | x :: rest, s =>
    match x.run s with
    | .next s' => runHost rest s'
    | .fault f => .fault f
    | .refused r => .refused r

/-- The colour the host shows at row `y`, column `x` (R53, R229). -/
def State.pixelColour (s : State) (y x : Nat) : BitVec 32 := Config.shadeRgba (s.ppu.fb.shade y x)

end Sys2Proof.Machine
end

