-- ==== Sys2Proof/Safety.lean ====
section
/-! DEFINITION. What a safe state is, and the words the statements are written in: the invariant of the machine, what no
instruction may touch, and which reads a store may change. -/

namespace Sys2Proof.Machine

/-! ## The invariant -/

/-- The pixel pipeline is as reset and HBlank entry leave it (spec/10_state.md R49, R50, R51; the latches are free). -/
def Ppu.pipelineIdle (p : Ppu) : Prop :=
  p.fstate = .getTileIndex ∧ p.fetcherX = 0 ∧ p.fifo = [] ∧ p.lx = 0

/-- The position is one at which no pixel is drawn: a VBlank line, or a dot before 80 or from 252 on (R48). -/
def Ppu.outsideDraw (p : Ppu) : Prop := 144 ≤ p.ly ∨ p.dot < 80 ∨ 252 ≤ p.dot

/-- The states the machine can be in: F's low nibble is 0 (R17), the stores are canonical, the PPU's counters and queue
are in their ranges (R47, R50, R51), and its pipeline is idle outside Draw (R222). -/
structure State.Ok (s : State) : Prop where
  flagsLow : s.cpu.f.extractLsb' 0 4 = 0
  mem : s.mem.wf = true
  fb : s.ppu.fb.wf = true
  dot : s.ppu.dot < 456
  ly : s.ppu.ly < 154
  lx : s.ppu.lx ≤ 160
  fifo : s.ppu.fifo.length ≤ 16
  idle : s.ppu.outsideDraw → s.ppu.pipelineIdle

/-! ## Reads and stores -/

/-- The cartridge receives a write to this address (R60). -/
def cartOwns (addr : Word) : Bool :=
  match ownerOf addr with
  | .bootOrCart | .cartRom | .extRam => true
  | .vram | .wram | .echo | .oam | .unusable | .io | .hram | .ie => false

/-- VRAM, WRAM, OAM and HRAM, written out from the ranges of R60. -/
def isRam (a : Nat) : Prop :=
  (0x8000 ≤ a ∧ a ≤ 0x9FFF) ∨ (0xC000 ≤ a ∧ a ≤ 0xDFFF) ∨ (0xFE00 ≤ a ∧ a ≤ 0xFE9F) ∨ (0xFF80 ≤ a ∧ a ≤ 0xFFFE)

/-- The I/O addresses that the map of R56 gives no name (R29). -/
def isUnnamedIo (a : Nat) : Prop :=
  a = 0xFF03 ∨ (0xFF08 ≤ a ∧ a ≤ 0xFF0E) ∨ (0xFF27 ≤ a ∧ a ≤ 0xFF3F) ∨ (0xFF4C ≤ a ∧ a ≤ 0xFF4F) ∨
    (0xFF51 ≤ a ∧ a ≤ 0xFF7F)

/-- NR10 to NR52 and the bytes between them (R56, R57). -/
def isSoundRegister (a : Nat) : Prop := 0xFF10 ≤ a ∧ a ≤ 0xFF26

/-- A store to `addr` may change what a read of `b` gives: the address itself; an address that is kept in the same byte
(work RAM and its echo, R67); within the cartridge, any address (R78); and for the boot-disable register the overlay
(R62). -/
def disturbs (addr b : Word) : Prop :=
  b = addr ∨ ((storageKey addr).isSome = true ∧ storageKey b = storageKey addr) ∨
    (cartOwns addr = true ∧ cartOwns b = true) ∨ (addr = 0xFF50 ∧ b.toNat < 0x100)

/-- Every byte a store to `addr` may not change reads as before. -/
def readsKept (addr : Word) (s t : State) : Prop := ∀ b, ¬ disturbs addr b → busRead b t = busRead b s

/-- Every byte two stores may not change reads as before. -/
def readsKept2 (addr addr' : Word) (s t : State) : Prop :=
  ∀ b, ¬ disturbs addr b → ¬ disturbs addr' b → busRead b t = busRead b s

/-- The byte an operand location holds; reading memory can fail (R97). -/
def locHolds (x : Loc) (s : State) (v : Byte) : Prop :=
  match x with
  | .reg r => s.cpu.reg r = v
  | .atHl => busRead s.cpu.hl s = .ok v

/-- `m` is `s` with `v` written to an operand location (R97). -/
def locWritten (x : Loc) (v : Byte) (s m : State) : Prop :=
  match x with
  | .reg r => m = { s with cpu := s.cpu.setReg r v }
  | .atHl => busWrite s.cpu.hl v s = .ok m

/-- The operand of an ALU operation (R148). -/
def aluSrcHolds (src : AluSrc) (s : State) (v : Byte) : Prop :=
  match src with
  | .loc x => locHolds x s v
  | .imm n => n = v

/-! ## What the CPU side of a step cannot touch -/

/-- `t` is `s` as far as the timer, the PPU and the host own it: the counters, latches, queues, the framebuffer, the
read-only bits of STAT, the host's nibbles, the parameters and the image in the cartridge are the same; the divider is
the same or cleared (R71); the boot-disable latch is not cleared (R62); the logs only grow (R26, R234). -/
structure unitsKept (s t : State) : Prop where
  settings : t.settings = s.settings
  frameDone : t.frameDone = s.frameDone
  image : t.cart.image? = s.cart.image?
  bootEnabled : t.boot.enabled = s.boot.enabled
  bootLatch : s.boot.disabled = true → t.boot.disabled = true
  lastAnd : t.timer.lastAnd = s.timer.lastAnd
  divider : t.timer.div = s.timer.div ∨ t.timer.div = 0
  dot : t.ppu.dot = s.ppu.dot
  ly : t.ppu.ly = s.ppu.ly
  fstate : t.ppu.fstate = s.ppu.fstate
  fetcherX : t.ppu.fetcherX = s.ppu.fetcherX
  tileIndex : t.ppu.tileIndex = s.ppu.tileIndex
  tileLo : t.ppu.tileLo = s.ppu.tileLo
  tileHi : t.ppu.tileHi = s.ppu.tileHi
  fifo : t.ppu.fifo = s.ppu.fifo
  lx : t.ppu.lx = s.ppu.lx
  statLine : t.ppu.statLine = s.ppu.statLine
  statLow : t.ppu.stat.extractLsb' 0 3 = s.ppu.stat.extractLsb' 0 3
  fb : t.ppu.fb = s.ppu.fb
  dirs : t.joypad.dirs = s.joypad.dirs
  buttons : t.joypad.buttons = s.joypad.buttons
  serialOut : s.serial.out <+: t.serial.out
  undefLog : s.undefLog <+: t.undefLog

/-- The interrupt and power state of the CPU is the same (R22 to R25). -/
def controlKept (c d : Cpu) : Prop :=
  d.ime = c.ime ∧ d.eiPending = c.eiPending ∧ d.diPending = c.diPending ∧ d.halted = c.halted ∧ d.stopped = c.stopped

/-- `s` with these CPU registers and `n` more cycles; all else is as in `s`. -/
def State.after (s : State) (c : Cpu) (n : Nat) : State := { s with cpu := c, cycles := s.cycles + n }

/-- `d` is `c` with register `r` holding `v` and nothing else changed. -/
def onlyReg (r : Reg8) (v : Byte) (c d : Cpu) : Prop :=
  d.reg r = v ∧ (∀ q, q ≠ r → d.reg q = c.reg q) ∧ d.f = c.f ∧ d.sp = c.sp ∧ d.pc = c.pc ∧ controlKept c d

/-! ## Instructions, their bytes and their costs -/

/-- The bytes of an ALU operation whose field `y` is `y` (R148). -/
def aluBytes (y : BitVec 3) (src : AluSrc) : List Byte :=
  match src with
  | .loc x => [0b10#2 ++ y ++ x.field]
  | .imm n => [0b11#2 ++ y ++ 0b110#3, n]

/-- The cycles of an ALU operation (R148). -/
def aluCycles (src : AluSrc) : Nat :=
  match src with
  | .loc (.reg _) => 4
  | .loc .atHl => 8
  | .imm _ => 8

/-- The bytes at PC are those the fetch of `i` reads (R116; STOP's second byte is not read, R103). -/
def fetchesAs (i : Instr) (s : State) : Prop :=
  ∀ k, k < i.fetched → busRead (s.cpu.pc + BitVec.ofNat 16 k) s = .ok ((encode i).getD k 0)

/-- The state after phases 1 and 2 of a CPU step that takes no interrupt (R206, R207, R208). -/
def awake (s : State) : State := wakeFromStop (wakeFromHalt (imeCommit s.beginStep))

/-- Interrupt `k` is the lowest pending one (R205). -/
def isLowestPending (k : Nat) (pending : Byte) : Prop :=
  k < 5 ∧ pending.getLsbD k = true ∧ ∀ j, j < k → pending.getLsbD j = false

/-- The condition of a conditional instruction holds; of any other, always (R99, R118). -/
def isTaken (i : Instr) (f : Flags) : Bool :=
  match encode i with
  | [] => true
  | op :: _ =>
    let cc := op.extractLsb' 3 2
    let cond := if cc = 0 then !f.z else if cc = 1 then f.z else if cc = 2 then !f.c else f.c
    if op.extractLsb' 5 3 = 0b001 ∧ op.extractLsb' 0 3 = 0b000 then cond
    else if op.extractLsb' 5 3 = 0b110 ∧
        (op.extractLsb' 0 3 = 0b000 ∨ op.extractLsb' 0 3 = 0b010 ∨ op.extractLsb' 0 3 = 0b100) then cond
    else true

/-! ## The PPU as a picture -/

/-- The PPU's counters run: the LCD is on, or its being off does not freeze them (R223). -/
def State.ppuRuns (s : State) : Prop := ¬ (s.settings.lcdOff = .frozenAtLine0 ∧ s.ppu.lcdOn = false)

/-- The background pixel at column `x` of the current line, straight from VRAM: the tile of the active map, its row, its
two bitplanes (R225, R226, R227). -/
def bgPixel (mem : Memory) (p : Ppu) (x : Nat) : BitVec 2 :=
  let y := (p.ly + p.scy.toNat) % 256
  let map := if p.lcdc.getLsbD 3 then 0x9C00 else 0x9800
  let tile := mem.read (map + (p.scx.toNat / 8 + x / 8) % 32 + 32 * (y / 8))
  let row : Int := (if p.lcdc.getLsbD 4 then 0x8000 + 16 * (tile.toNat : Int) else 0x9000 + 16 * tile.toInt) + 2 * (y % 8)
  BitVec.ofBool ((mem.read (row.toNat + 1)).getLsbD (7 - x % 8)) ++ BitVec.ofBool ((mem.read row.toNat).getLsbD (7 - x % 8))

end Sys2Proof.Machine
end

