-- ==== Sys2Proof/Certificates/Slice0/Obligations.lean ====
section
/-! DEFINITION. The statements for the provers, in the order of OBLIGATIONS.json: encoding, the step and its whole-machine
rules, the bus and the devices on it, reset, the instructions family by family, the timer and the PPU. A statement about
an instruction gives its bytes and its whole next state: what the next state's expression does not name is unchanged. -/

open Sys2Proof Sys2Proof.Machine

/-! ## Encoding -/

/-- Decoding the bytes of a well-formed instruction, whatever follows them, gives it back, every operand at every value
(R94, R95, R102, R105, R106). -/
def Obligations.DecodeOfEncodeIsTheInstruction : Prop :=
  ∀ i : Instr, i.wf = true → ∀ rest : List Byte, decode (encode i ++ rest) = .ok i

/-- Decoding is total on three bytes, and what is decoded is a well-formed instruction of one to three bytes whose
fetched bytes are the bytes decoded (R94, R108, R117). -/
def Obligations.DecodedBytesAreTheEncoding : Prop :=
  ∀ (op b1 b2 : Byte) (rest : List Byte), ∃ i, decode (op :: b1 :: b2 :: rest) = .ok i ∧ i.wf = true ∧
    1 ≤ i.length ∧ i.length ≤ 3 ∧ (op :: b1 :: b2 :: rest).take i.fetched = (encode i).take i.fetched

/-- Words written out from the maps of R105 and R106, one of each format and of each family. -/
def Obligations.WrittenOutWordsDecode : Prop :=
  decode [0b00000000#8] = .ok .nop ∧
  decode [0b01000001#8] = .ok .ldBC ∧
  decode [0b00111110#8, 0x5A] = .ok (.ldAN 0x5A) ∧
  decode [0b11100000#8, 0x07] = .ok (.ldhIndA8A 0x07) ∧
  decode [0b00110001#8, 0xFF, 0xDF] = .ok (.ldSpNn 0xDFFF) ∧
  decode [0b11110001#8] = .ok .popAf ∧
  decode [0b10011100#8] = .ok .sbcAH ∧
  decode [0b00101001#8] = .ok .addHlHl ∧
  decode [0b11001011#8, 0b00110111] = .ok .swapA ∧
  decode [0b11001011#8, 0b11011110] = .ok .set3IndHl ∧
  decode [0b00100000#8, 0xFC] = .ok (.jrNZE 0xFC) ∧
  decode [0b11001101#8, 0x34, 0x12] = .ok (.callNn 0x1234) ∧
  decode [0b00010000#8] = .ok .stop ∧
  decode [0b01110110#8] = .ok .halt ∧
  decode [0xDD#8] = .ok (.undefined 0xDD)

/-- The prefix with a second byte is the instruction the extended map has for that byte, and that instruction's bytes
are the prefix and that byte (R101, R106, R201). -/
def Obligations.PrefixRunsTheSelectedRow : Prop :=
  ∀ (cb : Byte) (s : State),
    exec (.prefixCb cb) s = exec (Decode.cbInstr cb) s ∧ encode (Decode.cbInstr cb) = [0xCB, cb] ∧
      decode [0xCB, cb] = .ok (Decode.cbInstr cb)

/-! ## The step -/

/-- When the CPU is awake after phases 1 and 2 (neither halted nor, under `HaltUntilJoypad`, stopped), no interrupt is
taken, and the bytes at PC are those of a well-formed instruction `i`, the step is `exec i` with PC past the fetched
bytes, and then the timer and the PPU tick once for each cycle used, the timer first (R86, R111, R114, R116, R117; that
order is decision D27). -/
def Obligations.StepRunsTheDecodedInstruction : Prop :=
  ∀ (s : State) (i : Instr), i.wf = true →
    ((awake s).cpu.ime = false ∨ (awake s).irq.pending = 0) → (awake s).cpu.halted = false →
    ((awake s).cpu.stopped = false ∨ s.settings.stopMode = .flagOnly) → fetchesAs i (awake s) →
    step s = match exec i ((awake s).jump ((awake s).cpu.pc + BitVec.ofNat 16 i.fetched)) with
      | .next t => .next (ticks ppuTick t.cycles (ticks timerTick t.cycles t))
      | .fault f => .fault f
      | .refused r => .refused r

/-- When an interrupt is pending and IME is set, phase 2 takes the lowest: IME and its IF bit are cleared, the dispatch
cost is charged, PC is pushed high byte first, and PC is the vector; then phase 3 runs in the same step unless
`P_DISPATCH_ENDS_STEP`: it runs the instruction at the vector, or idles for 4 cycles when STOP still freezes the CPU; and
then the timer and the PPU tick once for each cycle used (R111, R114, R205, R209). The cost is the parameter
`P_INT_DISPATCH_CYCLES` (decision D24). -/
def Obligations.StepTakesTheLowestInterrupt : Prop :=
  ∀ (s m n v : State) (k : Nat), (awake s).cpu.ime = true → isLowestPending k (awake s).irq.pending →
    busWrite ((awake s).cpu.sp - 1) (awake s).cpu.pc.hi
      { awake s with
        irq := { (awake s).irq with ifr := (awake s).irq.ifr &&& ~~~(1#8 <<< k) }
        cycles := (awake s).settings.intDispatchCycles } = .ok m →
    busWrite ((awake s).cpu.sp - 2) (awake s).cpu.pc.lo m = .ok n →
    v = { n with cpu := { (awake s).cpu with ime := false, sp := (awake s).cpu.sp - 2, pc := BitVec.ofNat 16 (0x40 + 8 * k) } } →
    (step s = match (if v.settings.dispatchEndsStep = true then .next v else fetchPhase exec v) with
      | .next t => .next (ticks ppuTick t.cycles (ticks timerTick t.cycles t))
      | .fault f => .fault f
      | .refused r => .refused r) ∧
    (v.cpu.stopped = true → v.settings.stopMode = .haltUntilJoypad →
      fetchPhase exec v = .next { v with cycles := v.cycles + 4 }) ∧
    (∀ i : Instr, i.wf = true → (v.cpu.stopped = false ∨ v.settings.stopMode = .flagOnly) → fetchesAs i v →
      fetchPhase exec v = exec i (v.jump (v.cpu.pc + BitVec.ofNat 16 i.fetched)))

/-- What phases 1 and 2 leave when no interrupt is taken: a pending interrupt, enabled or not by IME, ends HALT; under
`HaltUntilJoypad` IF bit 4 ends STOP, whatever IE and IME hold, and nothing else does. A CPU that is still halted, or
still stopped under `HaltUntilJoypad`, fetches nothing, keeps PC and spends 4 cycles, for each of which the timer and
the PPU tick. Under `FlagOnly` the stopped flag has no effect: a step with it set is the step without it, but for the
flag itself (R25, R111, R114, R115, R198, R206, R207, R208; the 4 is decision D2, `P_STOP_MODE` decision D21). -/
def Obligations.HaltedOrStoppedStepFetchesNothing : Prop :=
  (∀ s : State, awake s = { s with
    cpu := { s.cpu with
      ime := if s.cpu.diPending = 1 then false else if s.cpu.eiPending = 1 then true else s.cpu.ime
      eiPending := if s.cpu.eiPending = 2 then 1 else 0
      diPending := if s.cpu.diPending = 2 then 1 else 0
      halted := s.cpu.halted && decide (s.irq.ie &&& s.irq.ifr &&& 0x1F = 0)
      stopped := s.cpu.stopped && !(decide (s.settings.stopMode = .haltUntilJoypad) && s.irq.ifr.getLsbD 4) }
    cycles := 0
    frameDone := false }) ∧
  (∀ s : State, s.irq.pending ≠ 0 → (awake s).cpu.halted = false) ∧
  (∀ s : State, s.irq.pending = 0 → s.cpu.halted = true →
    step s = .next (ticks ppuTick 4 (ticks timerTick 4 { s with
      cpu := { (awake s).cpu with halted := true, pc := s.cpu.pc }
      cycles := 4
      frameDone := false }))) ∧
  (∀ s : State, s.settings.stopMode = .haltUntilJoypad → s.cpu.stopped = true → s.irq.ifr.getLsbD 4 = false →
    ((awake s).cpu.ime = false ∨ s.irq.pending = 0) →
    step s = .next (ticks ppuTick 4 (ticks timerTick 4 { s with
      cpu := { (awake s).cpu with stopped := true, pc := s.cpu.pc }
      cycles := 4
      frameDone := false }))) ∧
  (∀ s : State, s.settings.stopMode = .haltUntilJoypad → s.irq.ifr.getLsbD 4 = true → (awake s).cpu.stopped = false) ∧
  (∀ s : State, s.settings.stopMode = .flagOnly →
    step { s with cpu := { s.cpu with stopped := true } } = match step { s with cpu := { s.cpu with stopped := false } } with
      | .next t => .next { t with cpu := { t.cpu with stopped := true } }
      | .fault f => .fault f
      | .refused r => .refused r)

/-- The instruction after `EI` runs with the old IME and IME is set at phase 1 of the step after it; `DI` likewise clears
it, whatever runs between (R199, R200, R206, R247). -/
def Obligations.EiAndDiTakeTwoSteps : Prop :=
  (∀ (s t m : State) (i : Instr), exec .ei s = .next t → s.cpu.diPending = 0 → i ≠ .ei →
    exec i (imeCommit t) = .next m →
    (imeCommit t).cpu.ime = s.cpu.ime ∧ (imeCommit m).cpu.ime = true ∧ (imeCommit m).cpu.eiPending = 0) ∧
  (∀ (s t m : State) (i : Instr), exec .di s = .next t → s.cpu.eiPending = 0 → i ≠ .di →
    exec i (imeCommit t) = .next m →
    (imeCommit t).cpu.ime = s.cpu.ime ∧ (imeCommit m).cpu.ime = false ∧ (imeCommit m).cpu.diPending = 0)

/-! ## Whole-machine rules -/

/-- With a cartridge present every instruction of the table completes, in every state and with every operand, and adds
its cost: the taken cost when its condition holds, else the other; every cost is a multiple of 4 (R118, R120). -/
def Obligations.EveryInstructionCompletes : Prop :=
  ∀ (i : Instr) (s : State), (∀ op, i = .undefined op → op ∈ undefinedOpcodes) → s.cart.present = true →
    ∃ t, exec i s = .next t ∧ t.cycles = s.cycles + (if isTaken i s.cpu.flags then i.cost.1 else i.cost.2) ∧
      4 ∣ i.cost.1 ∧ 4 ∣ i.cost.2 ∧ t.cart.present = true

/-- An instruction faults only for want of a cartridge, and is never refused; so is a step (R79, R120, R213). -/
def Obligations.OnlyAnAbsentCartridgeStops : Prop :=
  (∀ (i : Instr) (s : State) (f : Fault), exec i s = .fault f → f = .noCartridge ∧ s.cart = .absent) ∧
  (∀ (s : State) (f : Fault), step s = .fault f → f = .noCartridge ∧ s.cart = .absent) ∧
  (∀ (i : Instr) (s : State) (r : Refusal), exec i s ≠ .refused r ∧ step s ≠ .refused r)

/-- A machine with a cartridge steps on from every state, for ever (R79, R113). -/
def Obligations.CartridgeMachineNeverStops : Prop :=
  ∀ s : State, s.cart.present = true → ∀ n : Nat,
    ∃ t, runHost (List.replicate n .machineStep) s = .next t ∧ t.cart.present = true

/-- Every step keeps the invariant: F's low nibble 0 (R17), canonical stores, the PPU's counters and queue in range
(R47, R50, R51), its pipeline idle outside Draw (R222). -/
def Obligations.EveryStepKeepsTheInvariant : Prop :=
  ∀ s t : State, s.Ok → step s = .next t → t.Ok

/-- Reset meets the invariant, whatever the parameters. -/
def Obligations.ResetMeetsTheInvariant : Prop :=
  (∀ (p : PowerOn) (cart : Cart), (State.atReset p cart).Ok) ∧ State.reset.Ok

/-- Whatever the host does from a state that meets the invariant, the state reached meets it (R112). -/
def Obligations.HostRunsKeepTheInvariant : Prop :=
  ∀ (acts : List HostAction) (s t : State), s.Ok → runHost acts s = .next t → t.Ok

/-- No instruction but `RETI` writes IME, none but `EI` and `DI` their countdowns, none but `HALT` and `STOP` their bits
(R22, R23, R24, R25). -/
def Obligations.OnlyTheNamedInstructionsWriteControl : Prop :=
  ∀ (i : Instr) (s t : State), exec i s = .next t →
    (i ≠ .reti → t.cpu.ime = s.cpu.ime) ∧ (i ≠ .ei → t.cpu.eiPending = s.cpu.eiPending) ∧
    (i ≠ .di → t.cpu.diPending = s.cpu.diPending) ∧ (i ≠ .halt → t.cpu.halted = s.cpu.halted) ∧
    (i ≠ .stop → t.cpu.stopped = s.cpu.stopped)

/-- An instruction touches nothing that the timer, the PPU and the host own, but what its stores do to their registers
(R86, R119). -/
def Obligations.InstructionsKeepTheUnits : Prop :=
  ∀ (i : Instr) (s t : State), exec i s = .next t → unitsKept s t

/-- No step changes the parameters, the image in the cartridge or the host's nibbles, and none clears the boot-disable
latch (R30, R62, R233). -/
def Obligations.StepsKeepTheParameters : Prop :=
  ∀ s t : State, step s = .next t →
    t.settings = s.settings ∧ t.cart.image? = s.cart.image? ∧ t.boot.enabled = s.boot.enabled ∧
    (s.boot.disabled = true → t.boot.disabled = true) ∧ t.joypad.dirs = s.joypad.dirs ∧
    t.joypad.buttons = s.joypad.buttons

/-! ## The bus -/

/-- The addresses of plain storage are VRAM, WRAM, OAM, HRAM, the sound registers and the I/O addresses without a
behaviour of their own, each kept under itself, and the echo, kept under the work RAM address 0x2000 below. A store to one
is read back at every address that shares its byte, and every address no store there can disturb reads as before; no
store touches a CPU register (R29, R60, R64, R66, R67, R68, R72, R84, R87). -/
def Obligations.StoreChangesOnlyItsByte : Prop :=
  (∀ a : Word,
    (isRam a.toNat ∨ isUnnamedIo a.toNat ∨ isSoundRegister a.toNat → storageKey a = some a.toNat) ∧
    (0xE000 ≤ a.toNat ∧ a.toNat ≤ 0xFDFF → storageKey a = some (a.toNat - 0x2000)) ∧
    (¬ (isRam a.toNat ∨ isUnnamedIo a.toNat ∨ isSoundRegister a.toNat) → ¬ (0xE000 ≤ a.toNat ∧ a.toNat ≤ 0xFDFF) →
      storageKey a = none)) ∧
  (∀ (a : Word) (v : Byte) (s m : State), s.mem.wf = true → busWrite a v s = .ok m →
    readsKept a s m ∧ m.mem.wf = true ∧ m.cpu = s.cpu ∧ m.cycles = s.cycles ∧ m.undefLog = s.undefLog ∧
    ∀ (b : Word) (k : Nat), storageKey a = some k → storageKey b = some k → busRead b m = .ok v)

/-- Each echo address is the work RAM address 0x2000 below it, for reads and for writes (R67); the unusable region reads
0x00 and ignores writes (R69). -/
def Obligations.EchoAndUnusableRegions : Prop :=
  (∀ (a : Word) (v : Byte) (s : State), 0xE000 ≤ a.toNat → a.toNat ≤ 0xFDFF →
    busRead a s = busRead (a - 0x2000) s ∧ busWrite a v s = busWrite (a - 0x2000) v s ∧
      storageKey a = some (a.toNat - 0x2000)) ∧
  (∀ (a : Word) (v : Byte) (s : State), 0xFEA0 ≤ a.toNat → a.toNat ≤ 0xFEFF →
    busRead a s = .ok 0x00 ∧ busWrite a v s = .ok s)

/-- A write to DIV clears the counter whatever is written and leaves the edge latch, and a read gives the counter's top
byte (R71). With the latch set, the tick after a DIV write, after a TAC write that clears TAC[2], and after one that
selects a bit holding 0 sees a falling edge: it increments TIMA, or from 0xFF reloads it from TMA and requests interrupt
2, and changes nothing else but the counter and the latch (R216, R218). The tick counts before it looks, so the bit a TAC
write selects is that of the counter plus 1. -/
def Obligations.DivAndTacWritesCanCountAtOnce : Prop :=
  ∀ (v : Byte) (s : State),
    busWrite 0xFF04 v s = .ok { s with timer := { s.timer with div := 0 } } ∧
    busRead 0xFF04 s = .ok (BitVec.ofNat 8 (s.timer.div.toNat / 256)) ∧
    (s.timer.lastAnd = true → ∀ m : State,
      (busWrite 0xFF04 v s = .ok m ∨
        (busWrite 0xFF07 v s = .ok m ∧ (v.getLsbD 2 = false ∨
          (s.timer.div + 1).getLsbD (match (v.extractLsb' 0 2).toNat with | 0 => 9 | 1 => 3 | 2 => 5 | _ => 7) = false))) →
      timerTick m = { m with
        timer := { m.timer with
          div := m.timer.div + 1
          lastAnd := false
          tima := if s.timer.tima = 0xFF then s.timer.tma else s.timer.tima + 1 }
        irq := { s.irq with ifr := if s.timer.tima = 0xFF then s.irq.ifr ||| 0x04 else s.irq.ifr } })

/-- STAT keeps bits 2 to 0 on a write, LY ignores one, IE and IF store all eight bits, and each reads back what it holds
(R31, R32, R41, R43; the write rules of STAT and LY are decision D12). -/
def Obligations.StatLyIeAndIfWrites : Prop :=
  ∀ (v : Byte) (s : State),
    (∃ p, busWrite 0xFF41 v s = .ok { s with ppu := { s.ppu with stat := p } } ∧
      p.extractLsb' 3 5 = v.extractLsb' 3 5 ∧ p.extractLsb' 0 3 = s.ppu.stat.extractLsb' 0 3) ∧
    busRead 0xFF41 s = .ok s.ppu.stat ∧
    busWrite 0xFF44 v s = .ok s ∧ busRead 0xFF44 s = .ok (BitVec.ofNat 8 s.ppu.ly) ∧
    busWrite 0xFFFF v s = .ok { s with irq := { s.irq with ie := v } } ∧ busRead 0xFFFF s = .ok s.irq.ie ∧
    busWrite 0xFF0F v s = .ok { s with irq := { s.irq with ifr := v } } ∧ busRead 0xFF0F s = .ok s.irq.ifr

/-- P1 reads 0b11, the select bits and the AND of the selected nibbles, and a write stores bits 5:4 alone; the host's
input stores both nibbles and requests interrupt 4 exactly when one changes (R232, R233; decision D36). -/
def Obligations.JoypadRegisterAndInput : Prop :=
  (∀ s : State, ∃ p, busRead 0xFF00 s = .ok p ∧ p.extractLsb' 6 2 = 0b11 ∧ p.extractLsb' 4 2 = s.joypad.select ∧
    ∀ i, i < 4 → p.getLsbD i =
      ((s.joypad.select.getLsbD 0 || s.joypad.dirs.getLsbD i) && (s.joypad.select.getLsbD 1 || s.joypad.buttons.getLsbD i))) ∧
  (∀ (v : Byte) (s : State),
    busWrite 0xFF00 v s = .ok { s with joypad := { s.joypad with select := v.extractLsb' 4 2 } }) ∧
  (∀ (d b : BitVec 4) (s : State),
    s.setInput d b = { s with
      joypad := { s.joypad with dirs := d, buttons := b }
      irq := { s.irq with ifr := if d = s.joypad.dirs ∧ b = s.joypad.buttons then s.irq.ifr else s.irq.ifr ||| 0x10 } })

/-- A write to SC stores the byte, 0x81 also sends SB to the host, and nothing else happens: SB stays and no interrupt is
requested (R234; decision D37). -/
def Obligations.SerialHookSendsSb : Prop :=
  ∀ (v : Byte) (s : State),
    busWrite 0xFF02 v s = .ok { s with
      serial := { s.serial with sc := v, out := if v = 0x81 then s.serial.out ++ [s.serial.sb] else s.serial.out } } ∧
    busRead 0xFF02 s = .ok s.serial.sc ∧
    busWrite 0xFF01 v s = .ok { s with serial := { s.serial with sb := v } } ∧ busRead 0xFF01 s = .ok s.serial.sb

/-- While the overlay is enabled and not disabled, 0x0000 to 0x00FF read its bytes, else the cartridge; writes there
always go to the mapper (decision D14); 0xFF50 stores the byte and a nonzero one disables the overlay (R61, R62). -/
def Obligations.BootOverlayUntilDisabled : Prop :=
  (∀ (a : Word) (s : State) (h : a.toNat < 256), s.boot.enabled = true → s.boot.disabled = false →
    busRead a s = .ok (s.settings.bootImage[a.toNat])) ∧
  (∀ (a : Word) (s : State), a.toNat < 256 → (s.boot.enabled = false ∨ s.boot.disabled = true) →
    busRead a s = match s.cart.read a with | some v => .ok v | none => .error .noCartridge) ∧
  (∀ (a : Word) (v : Byte) (s : State), a.toNat < 256 →
    busWrite a v s = match s.cart.write a v with | some c => .ok { s with cart := c } | none => .error .noCartridge) ∧
  (∀ (v : Byte) (s : State),
    busWrite 0xFF50 v s = .ok { s with boot := { s.boot with reg := v, disabled := s.boot.disabled || decide (v ≠ 0) } } ∧
      busRead 0xFF50 s = .ok s.boot.reg)

/-- Which accesses reach the cartridge and what they do there. Every write to 0x0000 to 0x7FFF and 0xA000 to 0xBFFF goes
to the mapper, and so does every read but those of 0x0000 to 0x00FF while the boot overlay is active (R63, R65). A
cartridge of type 0x00 reads its image, 0xFF past its end and from 0xA000 to 0xBFFF, and ignores every write (R77; the
0xFF is decision D15); one of type 0x01 reads what `P_MAPPER` answers after the writes it received, and receives the
write (R78); without one the access is the fault of R79. At power-on the byte 0x0147 chooses the mapper, and any other
value is refused (R76). -/
def Obligations.CartridgeAccessAndPowerOn : Prop :=
  (∀ (a : Word) (v : Byte) (s : State), a.toNat < 0x8000 ∨ (0xA000 ≤ a.toNat ∧ a.toNat < 0xC000) →
    ((0x100 ≤ a.toNat ∨ s.boot.enabled = false ∨ s.boot.disabled = true) →
      (∀ img, s.cart = .romOnly img →
        busRead a s = .ok (if a.toNat < 0x8000 ∧ a.toNat < img.length then img.byte a.toNat else 0xFF)) ∧
      (∀ img writes, s.cart = .banked img writes →
        busRead a s = .ok (Config.mapperRead img.length img.cells writes a)) ∧
      (s.cart = .absent → busRead a s = .error .noCartridge)) ∧
    (∀ img, s.cart = .romOnly img → busWrite a v s = .ok s) ∧
    (∀ img writes, s.cart = .banked img writes → busWrite a v s = .ok { s with cart := .banked img ((a, v) :: writes) }) ∧
    (s.cart = .absent → busWrite a v s = .error .noCartridge)) ∧
  (∀ (p : PowerOn) (img : RomImage), p.cart = some img → 0x150 ≤ img.length →
    (img.byte 0x0147 = 0x00 → State.powerOn p = .next (State.atReset p (.romOnly img))) ∧
    (img.byte 0x0147 = 0x01 → State.powerOn p = .next (State.atReset p (.banked img []))) ∧
    (img.byte 0x0147 ≠ 0x00 → img.byte 0x0147 ≠ 0x01 → State.powerOn p = .refused .unsupportedMapper))

/-! ## Reset -/

/-- The complete state after reset, for every choice of the parameters; the values of R241, the RAMs and the unnamed I/O
bytes at what `P_RAM_INIT` gives, the last pair for an address counting, and 0x00 where it gives none; the sound registers
at R57's values whatever it gives. `State.reset` is that of the parameters' defaults, without a cartridge; the defaults
(A to SP, DIV, the RAM contents) are decisions D4, D6, D7 and D8, and log entries 1 to 4. -/
def Obligations.ResetValues : Prop :=
  ∀ (p : PowerOn) (cart : Cart), ∃ s, s = State.atReset p cart ∧
    s.cpu.pc = (if p.bootOverlay then 0x0000 else 0x0100) ∧ s.cpu.sp = p.cpuInit.sp ∧ s.cpu.a = p.cpuInit.a ∧
    s.cpu.f = p.cpuInit.f &&& 0xF0 ∧ s.cpu.bc = Word.ofBytes p.cpuInit.b p.cpuInit.c ∧
    s.cpu.de = Word.ofBytes p.cpuInit.d p.cpuInit.e ∧ s.cpu.hl = Word.ofBytes p.cpuInit.h p.cpuInit.l ∧
    (s.cpu.ime, s.cpu.eiPending, s.cpu.diPending, s.cpu.halted, s.cpu.stopped) = (false, 0, 0, false, false) ∧
    s.undefLog = [] ∧ s.serial = ⟨0x00, 0x00, []⟩ ∧ s.irq = ⟨0x00, 0x00⟩ ∧
    s.boot = ⟨p.bootOverlay, false, 0x00⟩ ∧ s.timer = ⟨p.divInit, false, 0x00, 0x00, 0x00⟩ ∧
    (s.ppu.lcdc, s.ppu.stat, s.ppu.scy, s.ppu.scx, s.ppu.lyc) = (0x91, 0x06, 0x00, 0x00, 0x00) ∧
    (s.ppu.dma, s.ppu.bgp, s.ppu.obp0, s.ppu.obp1, s.ppu.wy, s.ppu.wx) = (0x00, 0xFC, 0xFF, 0xFF, 0x00, 0x00) ∧
    s.ppu.dot = 0 ∧ s.ppu.ly = 0 ∧ s.ppu.pipelineIdle ∧
    (s.ppu.tileIndex, s.ppu.tileLo, s.ppu.tileHi, s.ppu.statLine) = (0x00, 0x00, 0x00, false) ∧
    (∀ y x, s.ppu.fb.shade y x = 0) ∧ s.joypad = ⟨0b00, 0xF, 0xF⟩ ∧ busRead 0xFF00 s = .ok 0xCF ∧ s.cart = cart ∧
    (∀ k, k < 23 → busRead (BitVec.ofNat 16 (0xFF10 + k)) s = .ok
      ([0x80, 0xBF, 0xF3, 0x00, 0xBF, 0x00, 0x3F, 0x00, 0x00, 0xBF, 0x7F, 0xFF, 0x9F, 0x00, 0xBF, 0x00, 0xFF, 0x00,
        0x00, 0xBF, 0x77, 0xF3, 0xF1].getD k 0x00)) ∧
    (∀ a : Word, isRam a.toNat ∨ isUnnamedIo a.toNat →
      busRead a s = .ok ((p.ramInit.reverse.lookup a.toNat).getD 0x00)) ∧
    s.cycles = 0 ∧ s.frameDone = false ∧ s.settings = p.settings ∧
    State.reset = State.atReset
      { cart := none
        bootOverlay := false
        cpuInit := ⟨0x01, 0xB0, 0x00, 0x13, 0x00, 0xD8, 0x01, 0x4D, 0xFFFE⟩
        divInit := 0xAB00
        ramInit := []
        settings := ⟨Vector.replicate 256 0x00, 20, false, .flagOnly, .oamScanInsteadOfDraw, .edge, 1⟩ } .absent

/-! ## 8-bit loads -/

/-- `LD r,r'` and `LD r,n` (R123, R124). -/
def Obligations.LoadRegister : Prop :=
  (∀ (y z : Reg8) (s : State), encode (Instr.ldRegReg y z) = [0b01#2 ++ y.field ++ z.field] ∧
    ∃ d, exec (Instr.ldRegReg y z) s = .next (s.after d 4) ∧ onlyReg y (s.cpu.reg z) s.cpu d) ∧
  (∀ (y : Reg8) (n : Byte) (s : State), encode (Instr.ldRegImm y n) = [0b00#2 ++ y.field ++ 0b110#3, n] ∧
    ∃ d, exec (Instr.ldRegImm y n) s = .next (s.after d 8) ∧ onlyReg y n s.cpu d)

/-- `LD r,(HL)`: the read is at the old HL (R125). -/
def Obligations.LoadRegisterFromHl : Prop :=
  ∀ (y : Reg8) (s : State) (v : Byte), busRead s.cpu.hl s = .ok v →
    encode (Instr.ldRegHl y) = [0b01#2 ++ y.field ++ 0b110#3] ∧
    ∃ d, exec (Instr.ldRegHl y) s = .next (s.after d 8) ∧ onlyReg y v s.cpu d

/-- `LD (HL),r` and `LD (HL),n`: the byte is stored at HL, no register changes, and no other byte does (R126, R127). -/
def Obligations.StoreAtHl : Prop :=
  (∀ (z : Reg8) (s m : State), s.mem.wf = true → busWrite s.cpu.hl (s.cpu.reg z) s = .ok m →
    encode (Instr.ldHlReg z) = [0b01110#5 ++ z.field] ∧
    ∃ t, exec (Instr.ldHlReg z) s = .next t ∧ t = { m with cpu := s.cpu, cycles := s.cycles + 8 } ∧
      readsKept s.cpu.hl s t) ∧
  (∀ (n : Byte) (s m : State), s.mem.wf = true → busWrite s.cpu.hl n s = .ok m →
    encode (.ldIndHlN n) = [0x36, n] ∧
    ∃ t, exec (.ldIndHlN n) s = .next t ∧ t = { m with cpu := s.cpu, cycles := s.cycles + 12 } ∧
      readsKept s.cpu.hl s t)

/-- `LD A,(HL+)`, `LD A,(HL-)`, `LD (HL+),A`, `LD (HL-),A`: the access is at the old HL, which then steps, wrapping
(R128 to R131). -/
def Obligations.AccumulatorThroughHlWithStep : Prop :=
  encode .ldAIndHlInc = [0x2A] ∧ encode .ldAIndHlDec = [0x3A] ∧ encode .ldIndHlIncA = [0x22] ∧
  encode .ldIndHlDecA = [0x32] ∧
  (∀ (s : State) (v : Byte), busRead s.cpu.hl s = .ok v →
    exec .ldAIndHlInc s =
      .next (s.after { s.cpu with a := v, h := (s.cpu.hl + 1).hi, l := (s.cpu.hl + 1).lo } 8) ∧
    exec .ldAIndHlDec s =
      .next (s.after { s.cpu with a := v, h := (s.cpu.hl - 1).hi, l := (s.cpu.hl - 1).lo } 8)) ∧
  (∀ s m : State, s.mem.wf = true → busWrite s.cpu.hl s.cpu.a s = .ok m →
    (∃ t, exec .ldIndHlIncA s = .next t ∧ readsKept s.cpu.hl s t ∧
      t = { m with cpu := { s.cpu with h := (s.cpu.hl + 1).hi, l := (s.cpu.hl + 1).lo }, cycles := s.cycles + 8 }) ∧
    (∃ t, exec .ldIndHlDecA s = .next t ∧ readsKept s.cpu.hl s t ∧
      t = { m with cpu := { s.cpu with h := (s.cpu.hl - 1).hi, l := (s.cpu.hl - 1).lo }, cycles := s.cycles + 8 }))

/-- `LD A,(BC)`, `LD A,(DE)`, `LD A,(nn)`, `LDH A,(a8)`, `LD A,(C)` (R132, R133, R136, R138, R140). -/
def Obligations.AccumulatorLoads : Prop :=
  encode .ldAIndBc = [0x0A] ∧ encode .ldAIndDe = [0x1A] ∧ encode .ldAIndC = [0xF2] ∧
  (∀ lo hi : Byte, encode (.ldAIndNn (hi ++ lo)) = [0xFA, lo, hi]) ∧
  (∀ a8 : Byte, encode (.ldhAIndA8 a8) = [0xF0, a8]) ∧
  (∀ (s : State) (v : Byte), busRead (s.cpu.b ++ s.cpu.c) s = .ok v →
    exec .ldAIndBc s = .next (s.after { s.cpu with a := v } 8)) ∧
  (∀ (s : State) (v : Byte), busRead (s.cpu.d ++ s.cpu.e) s = .ok v →
    exec .ldAIndDe s = .next (s.after { s.cpu with a := v } 8)) ∧
  (∀ (nn : Word) (s : State) (v : Byte), busRead nn s = .ok v →
    exec (.ldAIndNn nn) s = .next (s.after { s.cpu with a := v } 16)) ∧
  (∀ (a8 : Byte) (s : State) (v : Byte), busRead (BitVec.ofNat 16 (0xFF00 + a8.toNat)) s = .ok v →
    exec (.ldhAIndA8 a8) s = .next (s.after { s.cpu with a := v } 12)) ∧
  (∀ (s : State) (v : Byte), busRead (BitVec.ofNat 16 (0xFF00 + s.cpu.c.toNat)) s = .ok v →
    exec .ldAIndC s = .next (s.after { s.cpu with a := v } 8))

/-- `LD (BC),A`, `LD (DE),A`, `LD (nn),A`, `LDH (a8),A`, `LD (C),A`: A is stored at the address, no register changes, and
no other byte does (R134, R135, R137, R139, R141). -/
def Obligations.AccumulatorStores : Prop :=
  encode .ldIndBcA = [0x02] ∧ encode .ldIndDeA = [0x12] ∧ encode .ldIndCA = [0xE2] ∧
  (∀ lo hi : Byte, encode (.ldIndNnA (hi ++ lo)) = [0xEA, lo, hi]) ∧
  (∀ a8 : Byte, encode (.ldhIndA8A a8) = [0xE0, a8]) ∧
  (∀ (i : Instr) (addr : Word) (cost : Nat) (s m : State), s.mem.wf = true →
    ((i = .ldIndBcA ∧ addr = s.cpu.b ++ s.cpu.c ∧ cost = 8) ∨
      (i = .ldIndDeA ∧ addr = s.cpu.d ++ s.cpu.e ∧ cost = 8) ∨
      (i = .ldIndNnA addr ∧ cost = 16) ∨
      (∃ a8 : Byte, i = .ldhIndA8A a8 ∧ addr = BitVec.ofNat 16 (0xFF00 + a8.toNat) ∧ cost = 12) ∨
      (i = .ldIndCA ∧ addr = BitVec.ofNat 16 (0xFF00 + s.cpu.c.toNat) ∧ cost = 8)) →
    busWrite addr s.cpu.a s = .ok m →
    ∃ t, exec i s = .next t ∧ t = { m with cpu := s.cpu, cycles := s.cycles + cost } ∧ readsKept addr s t)

/-! ## 16-bit loads and the stack -/

/-- `LD rr,nn` and `LD SP,HL` (R142, R143). -/
def Obligations.LoadPair : Prop :=
  (∀ (p : RegPair) (lo hi : Byte), encode (Instr.ldPair p (hi ++ lo)) = [0b00#2 ++ p.field ++ 0b0001#4, lo, hi]) ∧
  (∀ (nn : Word) (s : State),
    exec (Instr.ldPair .bc nn) s = .next (s.after { s.cpu with b := nn.hi, c := nn.lo } 12) ∧
    exec (Instr.ldPair .de nn) s = .next (s.after { s.cpu with d := nn.hi, e := nn.lo } 12) ∧
    exec (Instr.ldPair .hl nn) s = .next (s.after { s.cpu with h := nn.hi, l := nn.lo } 12) ∧
    exec (Instr.ldPair .sp nn) s = .next (s.after { s.cpu with sp := nn } 12)) ∧
  encode .ldSpHl = [0xF9] ∧
  ∀ s : State, exec .ldSpHl s = .next (s.after { s.cpu with sp := s.cpu.h ++ s.cpu.l } 8)

/-- `LD HL,SP+e` and `ADD SP,e`: the sum is signed, modulo 2^16; H and C are the carries of the unsigned low-byte addition;
Z and N are cleared (R144, R168). -/
def Obligations.StackPointerOffset : Prop :=
  ∀ (e : Byte) (s : State),
    let r : Word := BitVec.ofInt 16 ((s.cpu.sp.toNat : Int) + e.toInt)
    let fl : Flags := ⟨false, false, decide (s.cpu.sp.toNat % 16 + e.toNat % 16 > 0x0F),
      decide (s.cpu.sp.toNat % 256 + e.toNat > 0xFF)⟩
    encode (.ldHlSpE e) = [0xF8, e] ∧ encode (.addSpE e) = [0xE8, e] ∧
    exec (.ldHlSpE e) s = .next (s.after ({ s.cpu with h := r.hi, l := r.lo }.setFlags fl) 12) ∧
    exec (.addSpE e) s = .next (s.after ({ s.cpu with sp := r }.setFlags fl) 16)

/-- `LD (nn),SP`: the low byte at `nn`, then the high byte at `nn + 1` (R145). -/
def Obligations.StoreStackPointer : Prop :=
  (∀ lo hi : Byte, encode (.ldIndNnSp (hi ++ lo)) = [0x08, lo, hi]) ∧
  ∀ (nn : Word) (s m n : State), s.mem.wf = true → busWrite nn s.cpu.sp.lo s = .ok m →
    busWrite (nn + 1) s.cpu.sp.hi m = .ok n →
    ∃ t, exec (.ldIndNnSp nn) s = .next t ∧ t = { n with cpu := s.cpu, cycles := s.cycles + 20 } ∧
      readsKept2 nn (nn + 1) s t

/-- `PUSH qq`: the high byte at SP - 1, then the low byte at SP - 2, and SP two lower (R146). -/
def Obligations.PushPair : Prop :=
  ∀ (q : StackPair) (s m n : State), s.mem.wf = true →
    encode (Instr.push q) = [0b11#2 ++ q.field ++ 0b0101#4] ∧
    (let hi := match q with | .bc => s.cpu.b | .de => s.cpu.d | .hl => s.cpu.h | .af => s.cpu.a
     let lo := match q with | .bc => s.cpu.c | .de => s.cpu.e | .hl => s.cpu.l | .af => s.cpu.f
     busWrite (s.cpu.sp - 1) hi s = .ok m → busWrite (s.cpu.sp - 2) lo m = .ok n →
     ∃ t, exec (Instr.push q) s = .next t ∧
       t = { n with cpu := { s.cpu with sp := s.cpu.sp - 2 }, cycles := s.cycles + 16 } ∧
       readsKept2 (s.cpu.sp - 1) (s.cpu.sp - 2) s t)

/-- `POP qq`: the low byte from SP, the high byte from SP + 1, and SP two higher; into F only bits 7 to 4 go (R147). -/
def Obligations.PopPair : Prop :=
  ∀ (q : StackPair) (s : State) (lo hi : Byte), busRead s.cpu.sp s = .ok lo → busRead (s.cpu.sp + 1) s = .ok hi →
    encode (Instr.pop q) = [0b11#2 ++ q.field ++ 0b0001#4] ∧
    exec (Instr.pop q) s = .next (s.after
      (match q with
        | .bc => { s.cpu with b := hi, c := lo, sp := s.cpu.sp + 2 }
        | .de => { s.cpu with d := hi, e := lo, sp := s.cpu.sp + 2 }
        | .hl => { s.cpu with h := hi, l := lo, sp := s.cpu.sp + 2 }
        | .af => { s.cpu with a := hi, f := lo.extractLsb' 4 4 ++ 0#4, sp := s.cpu.sp + 2 }) 12)

/-! ## 8-bit arithmetic and logic -/

/-- The three operand forms of the eight ALU operations: their bytes and cycles, and that they differ in nothing else
(R148); and what writing the flags writes: bits 7 to 4 of F (R18, R121). -/
def Obligations.AluOperandForms : Prop :=
  (∀ (op : AluOp) (src : AluSrc) (s : State) (v : Byte), aluSrcHolds src s v →
    encode (Instr.alu op src) = aluBytes op.field src ∧
    ∃ c, exec (Instr.alu op (.imm v)) s = .next (s.after c 8) ∧
      exec (Instr.alu op src) s = .next (s.after c (aluCycles src))) ∧
  (∀ (c : Cpu) (fl : Flags), ∃ f, c.setFlags fl = { c with f := f } ∧ f.getLsbD 7 = fl.z ∧ f.getLsbD 6 = fl.n ∧
    f.getLsbD 5 = fl.h ∧ f.getLsbD 4 = fl.c ∧ f.extractLsb' 0 4 = c.f.extractLsb' 0 4)

/-- `ADD A,v` and `ADC A,v` (R149, R150). -/
def Obligations.AddAndAdc : Prop :=
  ∀ (src : AluSrc) (s : State) (v : Byte), aluSrcHolds src s v →
    let a := s.cpu.a.toNat
    let c := if s.cpu.f.getLsbD 4 then 1 else 0
    encode (Instr.alu .add src) = aluBytes 0 src ∧ encode (Instr.alu .adc src) = aluBytes 1 src ∧
    exec (Instr.alu .add src) s = .next (s.after
      ({ s.cpu with a := BitVec.ofNat 8 (a + v.toNat) }.setFlags
        ⟨decide ((a + v.toNat) % 256 = 0), false, decide (a % 16 + v.toNat % 16 > 0x0F), decide (a + v.toNat > 0xFF)⟩)
      (aluCycles src)) ∧
    exec (Instr.alu .adc src) s = .next (s.after
      ({ s.cpu with a := BitVec.ofNat 8 (a + v.toNat + c) }.setFlags
        ⟨decide ((a + v.toNat + c) % 256 = 0), false, decide (a % 16 + v.toNat % 16 + c > 0x0F),
          decide (a + v.toNat + c > 0xFF)⟩)
      (aluCycles src))

/-- `SUB A,v`, `SBC A,v` and `CP A,v` (R151, R152, R153). -/
def Obligations.SubSbcAndCp : Prop :=
  ∀ (src : AluSrc) (s : State) (v : Byte), aluSrcHolds src s v →
    let a : Int := s.cpu.a.toNat
    let b : Int := v.toNat
    let c : Int := if s.cpu.f.getLsbD 4 then 1 else 0
    encode (Instr.alu .sub src) = aluBytes 2 src ∧ encode (Instr.alu .sbc src) = aluBytes 3 src ∧
    encode (Instr.alu .cp src) = aluBytes 7 src ∧
    exec (Instr.alu .sub src) s = .next (s.after
      ({ s.cpu with a := BitVec.ofInt 8 (a - b) }.setFlags
        ⟨decide ((a - b) % 256 = 0), true, decide (a % 16 < b % 16), decide (a < b)⟩) (aluCycles src)) ∧
    exec (Instr.alu .sbc src) s = .next (s.after
      ({ s.cpu with a := BitVec.ofInt 8 (a - b - c) }.setFlags
        ⟨decide ((a - b - c) % 256 = 0), true, decide (a % 16 < b % 16 + c), decide (a < b + c)⟩) (aluCycles src)) ∧
    exec (Instr.alu .cp src) s = .next (s.after
      (s.cpu.setFlags ⟨decide (a = b), true, decide (a % 16 < b % 16), decide (a < b)⟩) (aluCycles src))

/-- `AND A,v`, `XOR A,v` and `OR A,v`, bit by bit (R154, R155, R156). -/
def Obligations.AndXorAndOr : Prop :=
  ∀ (src : AluSrc) (s : State) (v : Byte), aluSrcHolds src s v →
    encode (Instr.alu .and src) = aluBytes 4 src ∧ encode (Instr.alu .xor src) = aluBytes 5 src ∧
    encode (Instr.alu .or src) = aluBytes 6 src ∧
    (∃ r : Byte, (∀ k, k < 8 → r.getLsbD k = (s.cpu.a.getLsbD k && v.getLsbD k)) ∧
      exec (Instr.alu .and src) s =
        .next (s.after ({ s.cpu with a := r }.setFlags ⟨decide (r = 0), false, true, false⟩) (aluCycles src))) ∧
    (∃ r : Byte, (∀ k, k < 8 → r.getLsbD k = (s.cpu.a.getLsbD k != v.getLsbD k)) ∧
      exec (Instr.alu .xor src) s =
        .next (s.after ({ s.cpu with a := r }.setFlags ⟨decide (r = 0), false, false, false⟩) (aluCycles src))) ∧
    (∃ r : Byte, (∀ k, k < 8 → r.getLsbD k = (s.cpu.a.getLsbD k || v.getLsbD k)) ∧
      exec (Instr.alu .or src) s =
        .next (s.after ({ s.cpu with a := r }.setFlags ⟨decide (r = 0), false, false, false⟩) (aluCycles src)))

/-- `INC r`, `INC (HL)`, `DEC r`, `DEC (HL)`: the operand steps by one modulo 256, C stays, and no other byte changes
(R157 to R160). -/
def Obligations.IncrementAndDecrement : Prop :=
  ∀ (x : Loc) (s m : State) (old : Byte), s.mem.wf = true → locHolds x s old →
    let n := if x = .atHl then 12 else 4
    encode (Instr.inc8 x) = [0b00#2 ++ x.field ++ 0b100#3] ∧ encode (Instr.dec8 x) = [0b00#2 ++ x.field ++ 0b101#3] ∧
    (locWritten x (BitVec.ofNat 8 ((old.toNat + 1) % 256)) s m →
      ∃ t, exec (Instr.inc8 x) s = .next t ∧
        t = { m with
          cpu := m.cpu.setFlags ⟨decide (old.toNat = 0xFF), false, decide (old.toNat % 16 = 0x0F), s.cpu.f.getLsbD 4⟩
          cycles := s.cycles + n } ∧
        (x = .atHl → readsKept s.cpu.hl s t)) ∧
    (locWritten x (BitVec.ofNat 8 ((old.toNat + 255) % 256)) s m →
      ∃ t, exec (Instr.dec8 x) s = .next t ∧
        t = { m with
          cpu := m.cpu.setFlags ⟨decide (old.toNat = 0x01), true, decide (old.toNat % 16 = 0x00), s.cpu.f.getLsbD 4⟩
          cycles := s.cycles + n } ∧
        (x = .atHl → readsKept s.cpu.hl s t))

/-- `DAA`, in numbers: after an addition 0x60 and 0x06 are added as C, H and the digits of A ask, after a subtraction
subtracted as C and H ask (R161). -/
def Obligations.DecimalAdjust : Prop :=
  ∀ s : State,
    let a := s.cpu.a.toNat
    let n := s.cpu.f.getLsbD 6
    let h := s.cpu.f.getLsbD 5
    let c := s.cpu.f.getLsbD 4
    let high := if c ∨ (n = false ∧ a > 0x99) then 0x60 else 0
    let low := if h ∨ (n = false ∧ a % 16 > 0x09) then 0x06 else 0
    let r : Byte := if n then BitVec.ofNat 8 (a + 512 - high - low) else BitVec.ofNat 8 (a + high + low)
    encode .daa = [0x27] ∧
    exec .daa s = .next (s.after
      ({ s.cpu with a := r }.setFlags ⟨decide (r = 0), n, false, c || decide (n = false ∧ a > 0x99)⟩) 4)

/-- What `DAA` is for: after `ADD` or `SUB` of two-digit BCD numbers it leaves the BCD of the sum or difference modulo 100,
with C the decimal carry or borrow (derived from R149, R151, R161). -/
def Obligations.DecimalAdjustGivesBcd : Prop :=
  ∀ (x y : Nat) (s t u : State), x < 100 → y < 100 → s.cpu.a = BitVec.ofNat 8 (x / 10 * 16 + x % 10) →
    (exec (.addAN (BitVec.ofNat 8 (y / 10 * 16 + y % 10))) s = .next t → exec .daa t = .next u →
      u.cpu.a = BitVec.ofNat 8 ((x + y) % 100 / 10 * 16 + (x + y) % 10) ∧
        u.cpu.f.getLsbD 4 = decide (100 ≤ x + y)) ∧
    (exec (.subAN (BitVec.ofNat 8 (y / 10 * 16 + y % 10))) s = .next t → exec .daa t = .next u →
      u.cpu.a = BitVec.ofNat 8 ((x + 100 - y) % 100 / 10 * 16 + (x + 100 - y) % 10) ∧
        u.cpu.f.getLsbD 4 = decide (x < y))

/-- `CPL`, `SCF` and `CCF` (R162, R163, R164). -/
def Obligations.ComplementAndCarryFlag : Prop :=
  ∀ s : State,
    let z := s.cpu.f.getLsbD 7
    let c := s.cpu.f.getLsbD 4
    encode .cpl = [0x2F] ∧ encode .scf = [0x37] ∧ encode .ccf = [0x3F] ∧
    exec .cpl s = .next (s.after ({ s.cpu with a := ~~~s.cpu.a }.setFlags ⟨z, true, true, c⟩) 4) ∧
    exec .scf s = .next (s.after (s.cpu.setFlags ⟨z, false, false, true⟩) 4) ∧
    exec .ccf s = .next (s.after (s.cpu.setFlags ⟨z, false, false, !c⟩) 4)

/-! ## 16-bit arithmetic -/

/-- `ADD HL,rr` (R165), `INC rr` (R166) and `DEC rr` (R167), with each pair. -/
def Obligations.PairArithmetic : Prop :=
  ∀ (p : RegPair) (s : State),
    let hl := s.cpu.hl.toNat
    let v := (match p with
      | .bc => s.cpu.b ++ s.cpu.c
      | .de => s.cpu.d ++ s.cpu.e
      | .hl => s.cpu.h ++ s.cpu.l
      | .sp => s.cpu.sp : Word).toNat
    let written (w : Word) : Cpu :=
      match p with
      | .bc => { s.cpu with b := w.hi, c := w.lo }
      | .de => { s.cpu with d := w.hi, e := w.lo }
      | .hl => { s.cpu with h := w.hi, l := w.lo }
      | .sp => { s.cpu with sp := w }
    let r : Word := BitVec.ofNat 16 ((hl + v) % 65536)
    encode (Instr.addHl p) = [0b00#2 ++ p.field ++ 0b1001#4] ∧
    encode (Instr.inc16 p) = [0b00#2 ++ p.field ++ 0b0011#4] ∧
    encode (Instr.dec16 p) = [0b00#2 ++ p.field ++ 0b1011#4] ∧
    exec (Instr.addHl p) s = .next (s.after
      ({ s.cpu with h := r.hi, l := r.lo }.setFlags
        ⟨s.cpu.f.getLsbD 7, false, decide (hl % 4096 + v % 4096 > 0x0FFF), decide (hl + v > 0xFFFF)⟩) 8) ∧
    exec (Instr.inc16 p) s = .next (s.after (written (BitVec.ofNat 16 ((v + 1) % 65536))) 8) ∧
    exec (Instr.dec16 p) s = .next (s.after (written (BitVec.ofNat 16 ((v + 65535) % 65536))) 8)

/-! ## Rotates, shifts and bits -/

/-- The accumulator rotates, as shifts and ORs of bytes; Z is always cleared (R169 to R172). -/
def Obligations.AccumulatorRotates : Prop :=
  ∀ s : State,
    let a := s.cpu.a
    let carry : Byte := if s.cpu.f.getLsbD 4 then 1 else 0
    encode .rlca = [0x07] ∧ encode .rrca = [0x0F] ∧ encode .rla = [0x17] ∧ encode .rra = [0x1F] ∧
    exec .rlca s = .next (s.after
      ({ s.cpu with a := (a <<< 1) ||| (a >>> 7) }.setFlags ⟨false, false, false, a.getLsbD 7⟩) 4) ∧
    exec .rrca s = .next (s.after
      ({ s.cpu with a := (a >>> 1) ||| (a <<< 7) }.setFlags ⟨false, false, false, a.getLsbD 0⟩) 4) ∧
    exec .rla s = .next (s.after
      ({ s.cpu with a := (a <<< 1) ||| carry }.setFlags ⟨false, false, false, a.getLsbD 7⟩) 4) ∧
    exec .rra s = .next (s.after
      ({ s.cpu with a := (a >>> 1) ||| (carry <<< 7) }.setFlags ⟨false, false, false, a.getLsbD 0⟩) 4)

/-- The CB rotates and shifts on a register or on the byte at HL, as shifts and ORs of bytes (R174 to R181). -/
def Obligations.RotatesAndShifts : Prop :=
  ∀ (op : ShiftOp) (x : Loc) (s m : State) (v : Byte), s.mem.wf = true → locHolds x s v →
    let carry : Byte := if s.cpu.f.getLsbD 4 then 1 else 0
    let r : Byte := match op with
      | .rlc => (v <<< 1) ||| (v >>> 7)
      | .rrc => (v >>> 1) ||| (v <<< 7)
      | .rl => (v <<< 1) ||| carry
      | .rr => (v >>> 1) ||| (carry <<< 7)
      | .sla => v <<< 1
      | .sra => (v >>> 1) ||| (v &&& 0x80)
      | .swap => (v <<< 4) ||| (v >>> 4)
      | .srl => v >>> 1
    let c := match op with
      | .rlc | .rl | .sla => v.getLsbD 7
      | .rrc | .rr | .sra | .srl => v.getLsbD 0
      | .swap => false
    encode (Instr.shift op x) = [0xCB, 0b00#2 ++ op.field ++ x.field] ∧
    (locWritten x r s m →
      ∃ t, exec (Instr.shift op x) s = .next t ∧
        t = { m with
          cpu := m.cpu.setFlags ⟨decide (r = 0), false, false, c⟩
          cycles := s.cycles + (if x = .atHl then 16 else 8) } ∧
        (x = .atHl → readsKept s.cpu.hl s t))

/-- `BIT b,r` reads and writes nothing back (R182); `RES b,r` and `SET b,r` write the operand with the bit cleared or set
and no flag (R183, R184). -/
def Obligations.SingleBitOperations : Prop :=
  ∀ (b : Fin 8) (x : Loc) (s m : State) (v : Byte), s.mem.wf = true → locHolds x s v →
    let bits : BitVec 3 := BitVec.ofFin b
    encode (Instr.bitLoc b x) = [0xCB, 0b01#2 ++ bits ++ x.field] ∧
    encode (Instr.resLoc b x) = [0xCB, 0b10#2 ++ bits ++ x.field] ∧
    encode (Instr.setLoc b x) = [0xCB, 0b11#2 ++ bits ++ x.field] ∧
    exec (Instr.bitLoc b x) s = .next (s.after
      (s.cpu.setFlags ⟨!v.getLsbD b, false, true, s.cpu.f.getLsbD 4⟩) (if x = .atHl then 12 else 8)) ∧
    (∀ r : Byte, (∀ k, k < 8 → r.getLsbD k = (decide (k ≠ b.val) && v.getLsbD k)) → locWritten x r s m →
      ∃ t, exec (Instr.resLoc b x) s = .next t ∧
        t = { m with cycles := s.cycles + (if x = .atHl then 16 else 8) } ∧
        (x = .atHl → readsKept s.cpu.hl s t)) ∧
    (∀ r : Byte, (∀ k, k < 8 → r.getLsbD k = (decide (k = b.val) || v.getLsbD k)) → locWritten x r s m →
      ∃ t, exec (Instr.setLoc b x) s = .next t ∧
        t = { m with cycles := s.cycles + (if x = .atHl then 16 else 8) } ∧
        (x = .atHl → readsKept s.cpu.hl s t))

/-! ## Control transfer -/

/-- `JP nn`, `JP cc,nn`, `JP HL`, `JR e`, `JR cc,e`; PC is the address after the instruction when they run, and the
displacement is signed, modulo 2^16 (R185 to R189). -/
def Obligations.Jumps : Prop :=
  ∀ s : State,
    let rel (e : Byte) : Word := BitVec.ofInt 16 ((s.cpu.pc.toNat : Int) + e.toInt)
    (∀ (cc : Cond) (lo hi : Byte), encode (Instr.jpCond cc (hi ++ lo)) = [0b110#3 ++ cc.field ++ 0b010#3, lo, hi] ∧
      encode (.jpNn (hi ++ lo)) = [0xC3, lo, hi]) ∧
    (∀ (cc : Cond) (e : Byte), encode (Instr.jrCond cc e) = [0b001#3 ++ cc.field ++ 0b000#3, e] ∧
      encode (.jrE e) = [0x18, e]) ∧ encode .jpHl = [0xE9] ∧
    (∀ nn : Word, exec (.jpNn nn) s = .next (s.after { s.cpu with pc := nn } 16)) ∧
    (∀ (cc : Cond) (nn : Word), exec (Instr.jpCond cc nn) s = .next
      (if condHolds cc s.cpu.flags then s.after { s.cpu with pc := nn } 16 else s.after s.cpu 12)) ∧
    exec .jpHl s = .next (s.after { s.cpu with pc := s.cpu.h ++ s.cpu.l } 4) ∧
    (∀ e : Byte, exec (.jrE e) s = .next (s.after { s.cpu with pc := rel e } 12)) ∧
    (∀ (cc : Cond) (e : Byte), exec (Instr.jrCond cc e) s = .next
      (if condHolds cc s.cpu.flags then s.after { s.cpu with pc := rel e } 12 else s.after s.cpu 8)) ∧
    condHolds .nz s.cpu.flags = !s.cpu.f.getLsbD 7 ∧ condHolds .z s.cpu.flags = s.cpu.f.getLsbD 7 ∧
    condHolds .nc s.cpu.flags = !s.cpu.f.getLsbD 4 ∧ condHolds .c s.cpu.flags = s.cpu.f.getLsbD 4

/-- `CALL nn`, `CALL cc,nn` and `RST t` push the address after the instruction and jump; a call not taken touches no
stack (R190, R191, R195). -/
def Obligations.CallsAndRestarts : Prop :=
  (∀ lo hi : Byte, encode (.callNn (hi ++ lo)) = [0xCD, lo, hi] ∧
    ∀ cc, encode (Instr.callCond cc (hi ++ lo)) = [0b110#3 ++ cc.field ++ 0b100#3, lo, hi]) ∧
  (∀ y : Fin 8, encode (Instr.rst y) = [0b11#2 ++ BitVec.ofFin (w := 3) y ++ 0b111#3]) ∧
  (∀ (cc : Cond) (nn : Word) (s : State), condHolds cc s.cpu.flags = false →
    exec (Instr.callCond cc nn) s = .next (s.after s.cpu 12)) ∧
  (∀ (i : Instr) (target : Word) (cost : Nat) (s m n : State), s.mem.wf = true →
    ((i = .callNn target ∧ cost = 24) ∨
      (∃ cc, i = Instr.callCond cc target ∧ condHolds cc s.cpu.flags = true ∧ cost = 24) ∨
      (∃ y : Fin 8, i = Instr.rst y ∧ target = BitVec.ofNat 16 (8 * y.val) ∧ cost = 16)) →
    busWrite (s.cpu.sp - 1) s.cpu.pc.hi s = .ok m → busWrite (s.cpu.sp - 2) s.cpu.pc.lo m = .ok n →
    ∃ t, exec i s = .next t ∧
      t = { n with cpu := { s.cpu with sp := s.cpu.sp - 2, pc := target }, cycles := s.cycles + cost } ∧
      readsKept2 (s.cpu.sp - 1) (s.cpu.sp - 2) s t)

/-- `RET`, `RET cc` and `RETI` pop PC; `RETI` also sets IME at once, leaving both countdowns; a return not taken touches no
stack (R192, R193, R194, R212). -/
def Obligations.Returns : Prop :=
  encode .ret = [0xC9] ∧ encode .reti = [0xD9] ∧ (∀ cc, encode (Instr.retCond cc) = [0b110#3 ++ cc.field ++ 0b000#3]) ∧
  (∀ (cc : Cond) (s : State), condHolds cc s.cpu.flags = false →
    exec (Instr.retCond cc) s = .next (s.after s.cpu 8)) ∧
  (∀ (s : State) (lo hi : Byte), busRead s.cpu.sp s = .ok lo → busRead (s.cpu.sp + 1) s = .ok hi →
    exec .ret s = .next (s.after { s.cpu with sp := s.cpu.sp + 2, pc := hi ++ lo } 16) ∧
    exec .reti s = .next (s.after { s.cpu with sp := s.cpu.sp + 2, pc := hi ++ lo, ime := true } 16) ∧
    ∀ cc, condHolds cc s.cpu.flags = true →
      exec (Instr.retCond cc) s = .next (s.after { s.cpu with sp := s.cpu.sp + 2, pc := hi ++ lo } 20))

/-! ## CPU control -/

/-- `NOP`, `HALT`, `STOP`, `DI` and `EI`: what each does in its own step (R196 to R200). -/
def Obligations.CpuControlInstructions : Prop :=
  encode .nop = [0x00] ∧ encode .halt = [0x76] ∧ encode .stop = [0x10, 0x00] ∧ encode .di = [0xF3] ∧
  encode .ei = [0xFB] ∧ Instr.stop.fetched = 1 ∧
  ∀ s : State,
    exec .nop s = .next (s.after s.cpu 4) ∧
    exec .halt s = .next (s.after { s.cpu with halted := true } 4) ∧
    exec .stop s = .next (s.after { s.cpu with stopped := true, pc := s.cpu.pc + 1 } 4) ∧
    exec .di s = .next (s.after { s.cpu with diPending := 2 } 4) ∧
    exec .ei s = .next (s.after { s.cpu with eiPending := 2 } 4)

/-- The eleven undefined opcodes are logged with their address and otherwise do nothing, in 4 cycles (R107, R202). -/
def Obligations.UndefinedOpcodesAreLogged : Prop :=
  undefinedOpcodes = [0xD3, 0xDB, 0xDD, 0xE3, 0xE4, 0xEB, 0xEC, 0xED, 0xF4, 0xFC, 0xFD] ∧
  ∀ op ∈ undefinedOpcodes, decode [op] = .ok (.undefined op) ∧ encode (.undefined op) = [op] ∧
    ∀ s : State, exec (.undefined op) s =
      .next { s with undefLog := s.undefLog ++ [(op, s.cpu.pc - 1)], cycles := s.cycles + 4 }

/-! ## Timer -/

/-- With the edge latch in step with its input, `n` ticks add to TIMA the number of times the selected bit falls, one per
`P = 2^(b+1)` cycles of the divider; the count that passes 0xFF reloads TMA and requests interrupt 2; with the timer off
TIMA stays (R216, R217). -/
def Obligations.TimerCountsPeriods : Prop :=
  ∀ (s : State) (n : Nat), s.timer.lastAnd = timerAnd s.timer.div s.timer.tac →
    let period := match (s.timer.tac.extractLsb' 0 2).toNat with | 0 => 1024 | 1 => 16 | 2 => 64 | _ => 256
    let falls := if s.timer.tac.getLsbD 2 then (s.timer.div.toNat + n) / period - s.timer.div.toNat / period else 0
    let t := ticks timerTick n s
    t.timer.div = s.timer.div + BitVec.ofNat 16 n ∧ t.timer.lastAnd = timerAnd t.timer.div t.timer.tac ∧
    t.timer.tac = s.timer.tac ∧ t.timer.tma = s.timer.tma ∧
    (s.timer.tima.toNat + falls ≤ 0xFF → t.timer.tima.toNat = s.timer.tima.toNat + falls ∧ t.irq = s.irq) ∧
    (s.timer.tima.toNat + falls = 0x100 →
      t.timer.tima = s.timer.tma ∧ t.irq = { s.irq with ifr := s.irq.ifr ||| 0x04 })

/-! ## PPU -/

/-- The PPU's position is a count of dots: 456 a line, 154 lines, 70224 a frame (R219, R220, R254). -/
def Obligations.PpuPositionCountsDots : Prop :=
  ∀ (s : State) (n : Nat), s.ppuRuns → s.ppu.dot < 456 → s.ppu.ly < 154 →
    let t := ticks ppuTick n s
    t.ppu.dot < 456 ∧ t.ppu.ly < 154 ∧
      456 * t.ppu.ly + t.ppu.dot = (456 * s.ppu.ly + s.ppu.dot + n) % 70224

/-- A tick requests interrupt 0 exactly on reaching dot 0 of line 144, writes the mode and the coincidence flag of the new
position into STAT, and requests interrupt 1 exactly when the OR-ed condition rises, or in `Level` mode holds; it reports
the end of a frame exactly when the line wraps to 0 (R48, R221, R230, R231, R236; decisions D30, D38). -/
def Obligations.PpuTickStatusAndRequests : Prop :=
  ∀ s : State, s.ppuRuns → s.ppu.dot < 456 → s.ppu.ly < 154 →
    let t := ppuTick s
    let ly := t.ppu.ly
    let dot := t.ppu.dot
    let hblank := decide (ly < 144 ∧ 252 ≤ dot)
    let vblank := decide (144 ≤ ly)
    let draw := decide (ly < 144 ∧ 80 ≤ dot ∧ dot < 252) && s.ppu.lcdc.getLsbD 7
    let scan := !hblank && !vblank && !draw
    let cond := (s.ppu.stat.getLsbD 3 && hblank) || (s.ppu.stat.getLsbD 4 && vblank) ||
      (s.ppu.stat.getLsbD 5 && scan) || (s.ppu.stat.getLsbD 6 && decide (ly = s.ppu.lyc.toNat))
    t.ppu.stat.extractLsb' 0 2 = (if hblank then 0b00 else if vblank then 0b01 else if draw then 0b11 else 0b10) ∧
    t.ppu.stat.getLsbD 2 = decide (ly = s.ppu.lyc.toNat) ∧
    t.ppu.stat.extractLsb' 3 5 = s.ppu.stat.extractLsb' 3 5 ∧ t.ppu.statLine = cond ∧
    t.irq.ifr.getLsbD 0 = (s.irq.ifr.getLsbD 0 || decide (ly = 144 ∧ dot = 0)) ∧
    t.irq.ifr.getLsbD 1 = (s.irq.ifr.getLsbD 1 ||
      (cond && (!s.ppu.statLine || decide (s.settings.statIrqMode = .level)))) ∧
    t.irq.ifr.extractLsb' 2 6 = s.irq.ifr.extractLsb' 2 6 ∧ t.irq.ie = s.irq.ie ∧
    t.frameDone = (s.frameDone || decide (s.ppu.ly = 153 ∧ ly = 0))

/-- Reaching dot 252 of a visible line resets the pixel pipeline and keeps the latches (R222); with the LCD off under
`FrozenAtLine0` a tick puts the PPU at dot 0 of line 0 with mode 0, and requests nothing (R223; decision D29). -/
def Obligations.PipelineResets : Prop :=
  (∀ s : State, s.ppuRuns → s.ppu.dot = 251 → s.ppu.ly < 144 →
    (ppuTick s).ppu.pipelineIdle ∧ (ppuTick s).ppu.dot = 252 ∧ (ppuTick s).ppu.fb = s.ppu.fb ∧
    (ppuTick s).ppu.tileIndex = s.ppu.tileIndex ∧ (ppuTick s).ppu.tileLo = s.ppu.tileLo ∧
    (ppuTick s).ppu.tileHi = s.ppu.tileHi) ∧
  (∀ s : State, ¬ s.ppuRuns →
    (ppuTick s).ppu.pipelineIdle ∧ (ppuTick s).ppu.dot = 0 ∧ (ppuTick s).ppu.ly = 0 ∧
    (ppuTick s).ppu.statLine = false ∧ (ppuTick s).ppu.fb = s.ppu.fb ∧ (ppuTick s).irq = s.irq ∧
    (ppuTick s).ppu.stat.extractLsb' 0 2 = 0b00 ∧ (ppuTick s).ppu.stat.getLsbD 2 = decide (s.ppu.lyc = 0) ∧
    (ppuTick s).ppu.stat.extractLsb' 3 5 = s.ppu.stat.extractLsb' 3 5)

/-- From the last dot before Draw of a visible line with the LCD on, the 172 Draw dots write all 160 pixels of the line:
each is the palette's shade of the background pixel that map, tile and scroll give, and no other line changes. The FIFO
and the fetcher between them add nothing and lose nothing (derived from R224 to R229). -/
def Obligations.DrawnLineIsTheBackground : Prop :=
  ∀ s : State, s.ppu.lcdOn = true → s.ppu.ly < 144 → s.ppu.dot = 79 → s.ppu.pipelineIdle → s.ppu.fb.wf = true →
    let t := ticks ppuTick 172 s
    t.ppu.dot = 251 ∧ t.ppu.ly = s.ppu.ly ∧
    (∀ x, x < 160 → t.ppu.fb.shade s.ppu.ly x = (s.ppu.bgp >>> (2 * (bgPixel s.mem s.ppu x).toNat)).extractLsb' 0 2) ∧
    (∀ y x, y < 144 → x < 160 → y ≠ s.ppu.ly → t.ppu.fb.shade y x = s.ppu.fb.shade y x)

/-! ## The stored device registers -/

/-- A write to TIMA, TMA, TAC, LCDC, SCY, SCX, LYC, DMA, BGP, OBP0, OBP1, WY or WX stores all eight bits and does nothing
else, so DMA starts no transfer; a read gives the byte held (R35, R36, R37, R40, R42, R44, R45, R46, R56, R85; the
addresses are decision D10, DMA decision D11). -/
def Obligations.StoredDeviceRegistersHoldTheByte : Prop :=
  ∀ (v : Byte) (s : State),
    busWrite 0xFF05 v s = .ok { s with timer := { s.timer with tima := v } } ∧ busRead 0xFF05 s = .ok s.timer.tima ∧
    busWrite 0xFF06 v s = .ok { s with timer := { s.timer with tma := v } } ∧ busRead 0xFF06 s = .ok s.timer.tma ∧
    busWrite 0xFF07 v s = .ok { s with timer := { s.timer with tac := v } } ∧ busRead 0xFF07 s = .ok s.timer.tac ∧
    busWrite 0xFF40 v s = .ok { s with ppu := { s.ppu with lcdc := v } } ∧ busRead 0xFF40 s = .ok s.ppu.lcdc ∧
    busWrite 0xFF42 v s = .ok { s with ppu := { s.ppu with scy := v } } ∧ busRead 0xFF42 s = .ok s.ppu.scy ∧
    busWrite 0xFF43 v s = .ok { s with ppu := { s.ppu with scx := v } } ∧ busRead 0xFF43 s = .ok s.ppu.scx ∧
    busWrite 0xFF45 v s = .ok { s with ppu := { s.ppu with lyc := v } } ∧ busRead 0xFF45 s = .ok s.ppu.lyc ∧
    busWrite 0xFF46 v s = .ok { s with ppu := { s.ppu with dma := v } } ∧ busRead 0xFF46 s = .ok s.ppu.dma ∧
    busWrite 0xFF47 v s = .ok { s with ppu := { s.ppu with bgp := v } } ∧ busRead 0xFF47 s = .ok s.ppu.bgp ∧
    busWrite 0xFF48 v s = .ok { s with ppu := { s.ppu with obp0 := v } } ∧ busRead 0xFF48 s = .ok s.ppu.obp0 ∧
    busWrite 0xFF49 v s = .ok { s with ppu := { s.ppu with obp1 := v } } ∧ busRead 0xFF49 s = .ok s.ppu.obp1 ∧
    busWrite 0xFF4A v s = .ok { s with ppu := { s.ppu with wy := v } } ∧ busRead 0xFF4A s = .ok s.ppu.wy ∧
    busWrite 0xFF4B v s = .ok { s with ppu := { s.ppu with wx := v } } ∧ busRead 0xFF4B s = .ok s.ppu.wx
end

