-- ==== Sys2Proof/Laws/Memory.lean ====
section
/-! SUPPORT. The laws of sparse storage: a read after a write, and that every operation keeps the canonical form, for
the memory and for the framebuffer. -/

namespace Sys2Proof.Machine

variable {w : Nat} {dflt : Nat → BitVec w} {ok : Nat → Bool}

/-! ## Sparse storage -/

theorem Sparse.wfFrom_cons {lo k : Nat} {v : BitVec w} {rest : List (Nat × BitVec w)} :
    Sparse.wfFrom dflt ok lo ((k, v) :: rest) = true ↔
      lo ≤ k ∧ ok k = true ∧ v ≠ dflt k ∧ Sparse.wfFrom dflt ok (k + 1) rest = true := by
  simp [Sparse.wfFrom, and_assoc]

/-- The canonical form from a bound is the canonical form from every lower one. -/
theorem Sparse.wfFrom_mono {lo lo' : Nat} (h : lo' ≤ lo) {l : List (Nat × BitVec w)}
    (hl : Sparse.wfFrom dflt ok lo l = true) : Sparse.wfFrom dflt ok lo' l = true := by
  cases l with
  | nil => rfl
  | cons e rest =>
    obtain ⟨k, v⟩ := e
    rw [Sparse.wfFrom_cons] at hl ⊢
    exact ⟨by omega, hl.2⟩

/-- A key below the bound is not listed. -/
theorem Sparse.get_below {lo k : Nat} (h : k < lo) {l : List (Nat × BitVec w)}
    (hl : Sparse.wfFrom dflt ok lo l = true) : Sparse.get dflt l k = dflt k := by
  cases l with
  | nil => rfl
  | cons e rest =>
    obtain ⟨k', v⟩ := e
    rw [Sparse.wfFrom_cons] at hl
    simp [Sparse.get, show k ≠ k' by omega, show k < k' by omega]

/-- A read of the key just written gives the value written. -/
theorem Sparse.get_set_same {lo k : Nat} {v : BitVec w} {l : List (Nat × BitVec w)}
    (hl : Sparse.wfFrom dflt ok lo l = true) : Sparse.get dflt (Sparse.set dflt l k v) k = v := by
  induction l generalizing lo with
  | nil => by_cases h : v = dflt k <;> simp [Sparse.set, Sparse.get, h]
  | cons e rest ih =>
    obtain ⟨k', v'⟩ := e
    rw [Sparse.wfFrom_cons] at hl
    unfold Sparse.set
    split
    · split
      · subst k'; rw [Sparse.get_below (Nat.lt_succ_self k) hl.2.2.2]; exact (by assumption : v = dflt k).symm
      · simp [Sparse.get]
    · split
      · split
        · simp [Sparse.get, *]
        · simp [Sparse.get]
      · have := ih hl.2.2.2
        simp [Sparse.get, *]

/-- A read of another key gives what it gave. -/
theorem Sparse.get_set_other {lo k j : Nat} {v : BitVec w} {l : List (Nat × BitVec w)} (hj : j ≠ k)
    (hl : Sparse.wfFrom dflt ok lo l = true) : Sparse.get dflt (Sparse.set dflt l k v) j = Sparse.get dflt l j := by
  induction l generalizing lo with
  | nil => by_cases h : v = dflt k <;> simp [Sparse.set, Sparse.get, h, hj]
  | cons e rest ih =>
    obtain ⟨k', v'⟩ := e
    rw [Sparse.wfFrom_cons] at hl
    unfold Sparse.set
    split
    · subst k'
      split
      · by_cases h : j < k
        · rw [Sparse.get_below (show j < k + 1 by omega) hl.2.2.2]; simp [Sparse.get, hj, h]
        · simp [Sparse.get, hj, h]
      · by_cases h : j < k <;> simp [Sparse.get, hj, h]
    · split
      · split
        · rfl
        · by_cases h : j < k
          · simp [Sparse.get, hj, h, show j ≠ k' by omega, show j < k' by omega]
          · simp [Sparse.get, hj, h]
      · have := ih hl.2.2.2
        simp [Sparse.get, this]

/-- A write of an allowed key keeps the canonical form. -/
theorem Sparse.wfFrom_set {lo k : Nat} {v : BitVec w} {l : List (Nat × BitVec w)} (hlo : lo ≤ k) (hk : ok k = true)
    (hl : Sparse.wfFrom dflt ok lo l = true) : Sparse.wfFrom dflt ok lo (Sparse.set dflt l k v) = true := by
  induction l generalizing lo with
  | nil => by_cases h : v = dflt k <;> simp [Sparse.set, Sparse.wfFrom, h, hlo, hk]
  | cons e rest ih =>
    obtain ⟨k', v'⟩ := e
    rw [Sparse.wfFrom_cons] at hl
    unfold Sparse.set
    split
    · subst k'
      split
      · exact Sparse.wfFrom_mono (by omega) hl.2.2.2
      · rename_i h; exact Sparse.wfFrom_cons.2 ⟨hlo, hk, h, hl.2.2.2⟩
    · split
      · split
        · exact Sparse.wfFrom_cons.2 hl
        · rename_i h
          exact Sparse.wfFrom_cons.2 ⟨hlo, hk, h, Sparse.wfFrom_cons.2 ⟨by omega, hl.2⟩⟩
      · exact Sparse.wfFrom_cons.2 ⟨hl.1, hl.2.1, hl.2.2.1, ih (by omega) hl.2.2.2⟩

/-- Two canonical lists that read alike are equal. -/
theorem Sparse.ext_of_get {lo : Nat} {l l' : List (Nat × BitVec w)} (hl : Sparse.wfFrom dflt ok lo l = true)
    (hl' : Sparse.wfFrom dflt ok lo l' = true) (h : ∀ k, Sparse.get dflt l k = Sparse.get dflt l' k) : l = l' := by
  induction l generalizing lo l' with
  | nil =>
    cases l' with
    | nil => rfl
    | cons e rest =>
      obtain ⟨k, v⟩ := e
      rw [Sparse.wfFrom_cons] at hl'
      exact absurd (h k) (by simp [Sparse.get, hl'.2.2.1.symm])
  | cons e rest ih =>
    obtain ⟨k, v⟩ := e
    have hl0 := hl
    rw [Sparse.wfFrom_cons] at hl
    cases l' with
    | nil => exact absurd (h k) (by simp [Sparse.get, hl.2.2.1])
    | cons e' rest' =>
      obtain ⟨k', v'⟩ := e'
      have hl0' := hl'
      rw [Sparse.wfFrom_cons] at hl'
      rcases Nat.lt_trichotomy k k' with hk | hk | hk
      · exact absurd (h k) (by simp [Sparse.get, hk, Nat.ne_of_lt hk, hl.2.2.1])
      · subst hk
        have hv : v = v' := by simpa [Sparse.get] using h k
        subst hv
        congr 1
        refine ih hl.2.2.2 hl'.2.2.2 fun j => ?_
        by_cases hj : j ≤ k
        · rw [Sparse.get_below (by omega) hl.2.2.2, Sparse.get_below (by omega) hl'.2.2.2]
        · have := h j
          simpa [Sparse.get, show j ≠ k by omega, show ¬ j < k by omega] using this
      · exact absurd (h k') (by simp [Sparse.get, hk, Nat.ne_of_lt hk, hl'.2.2.1.symm])

/-! ## The memory -/

theorem Memory.read_write_same {m : Memory} (hm : m.wf = true) (k : Nat) (v : Byte) : (m.write k v).read k = v :=
  Sparse.get_set_same hm

theorem Memory.read_write_other {m : Memory} (hm : m.wf = true) {j k : Nat} (v : Byte) (h : j ≠ k) :
    (m.write k v).read j = m.read j :=
  Sparse.get_set_other h hm

theorem Memory.wf_write {m : Memory} (hm : m.wf = true) {k : Nat} (v : Byte) (hk : isStorageKey k = true) :
    (m.write k v).wf = true :=
  Sparse.wfFrom_set (Nat.zero_le k) hk hm

/-- The reset memory is canonical, whatever `P_RAM_INIT` is. -/
theorem Memory.wf_ofRamInit (cells : List Host.Cell) : (Memory.ofRamInit cells).wf = true := by
  unfold Memory.ofRamInit
  suffices h : ∀ m : Memory, m.wf = true →
      Memory.wf (cells.foldl (fun m c => if isRamInitKey c.1 then m.write c.1 c.2 else m) m) = true from h [] rfl
  induction cells with
  | nil => intro m hm; exact hm
  | cons c rest ih =>
    intro m hm
    refine ih _ ?_
    dsimp only
    split
    · rename_i h
      unfold isRamInitKey at h
      exact Memory.wf_write hm c.2 (by simp only [Bool.and_eq_true] at h; exact h.1)
    · exact hm

/-! ## The framebuffer -/

theorem FrameBuffer.shade_setShade_same {fb : FrameBuffer} (h : fb.wf = true) (y x : Nat) (v : BitVec 2) :
    (fb.setShade y x v).shade y x = v :=
  Sparse.get_set_same h

theorem FrameBuffer.shade_setShade_other {fb : FrameBuffer} (h : fb.wf = true) {y x y' x' : Nat} (v : BitVec 2)
    (hx : x < 160) (hx' : x' < 160) (hne : ¬ (y' = y ∧ x' = x)) : (fb.setShade y x v).shade y' x' = fb.shade y' x' :=
  Sparse.get_set_other (by omega) h

theorem FrameBuffer.wf_setShade {fb : FrameBuffer} (h : fb.wf = true) {y x : Nat} (v : BitVec 2) (hy : y < 144)
    (hx : x < 160) : (fb.setShade y x v).wf = true :=
  Sparse.wfFrom_set (Nat.zero_le _) (by simp; omega) h

end Sys2Proof.Machine
end

