-- ==== Sys2Proof/Laws/State.lean ====
section
/-! SUPPORT. One lemma per field and update of the state and of the CPU registers, all by computation, so that no later
proof unfolds a record update. -/

namespace Sys2Proof.Machine

/-! ## Updates of the state -/

@[simp] theorem State.onCpu_cpu (s : State) (g : Cpu → Cpu) : (s.onCpu g).cpu = g s.cpu := rfl
@[simp] theorem State.onCpu_irq (s : State) (g : Cpu → Cpu) : (s.onCpu g).irq = s.irq := rfl
@[simp] theorem State.onCpu_timer (s : State) (g : Cpu → Cpu) : (s.onCpu g).timer = s.timer := rfl
@[simp] theorem State.onCpu_ppu (s : State) (g : Cpu → Cpu) : (s.onCpu g).ppu = s.ppu := rfl
@[simp] theorem State.onCpu_joypad (s : State) (g : Cpu → Cpu) : (s.onCpu g).joypad = s.joypad := rfl
@[simp] theorem State.onCpu_serial (s : State) (g : Cpu → Cpu) : (s.onCpu g).serial = s.serial := rfl
@[simp] theorem State.onCpu_boot (s : State) (g : Cpu → Cpu) : (s.onCpu g).boot = s.boot := rfl
@[simp] theorem State.onCpu_cart (s : State) (g : Cpu → Cpu) : (s.onCpu g).cart = s.cart := rfl
@[simp] theorem State.onCpu_mem (s : State) (g : Cpu → Cpu) : (s.onCpu g).mem = s.mem := rfl
@[simp] theorem State.onCpu_undefLog (s : State) (g : Cpu → Cpu) : (s.onCpu g).undefLog = s.undefLog := rfl
@[simp] theorem State.onCpu_cycles (s : State) (g : Cpu → Cpu) : (s.onCpu g).cycles = s.cycles := rfl
@[simp] theorem State.onCpu_frameDone (s : State) (g : Cpu → Cpu) : (s.onCpu g).frameDone = s.frameDone := rfl
@[simp] theorem State.onCpu_settings (s : State) (g : Cpu → Cpu) : (s.onCpu g).settings = s.settings := rfl

@[simp] theorem State.charge_cpu (s : State) (n : Nat) : (s.charge n).cpu = s.cpu := rfl
@[simp] theorem State.charge_irq (s : State) (n : Nat) : (s.charge n).irq = s.irq := rfl
@[simp] theorem State.charge_timer (s : State) (n : Nat) : (s.charge n).timer = s.timer := rfl
@[simp] theorem State.charge_ppu (s : State) (n : Nat) : (s.charge n).ppu = s.ppu := rfl
@[simp] theorem State.charge_joypad (s : State) (n : Nat) : (s.charge n).joypad = s.joypad := rfl
@[simp] theorem State.charge_serial (s : State) (n : Nat) : (s.charge n).serial = s.serial := rfl
@[simp] theorem State.charge_boot (s : State) (n : Nat) : (s.charge n).boot = s.boot := rfl
@[simp] theorem State.charge_cart (s : State) (n : Nat) : (s.charge n).cart = s.cart := rfl
@[simp] theorem State.charge_mem (s : State) (n : Nat) : (s.charge n).mem = s.mem := rfl
@[simp] theorem State.charge_undefLog (s : State) (n : Nat) : (s.charge n).undefLog = s.undefLog := rfl
@[simp] theorem State.charge_cycles (s : State) (n : Nat) : (s.charge n).cycles = s.cycles + n := rfl
@[simp] theorem State.charge_frameDone (s : State) (n : Nat) : (s.charge n).frameDone = s.frameDone := rfl
@[simp] theorem State.charge_settings (s : State) (n : Nat) : (s.charge n).settings = s.settings := rfl

@[simp] theorem State.jump_cpu (s : State) (target : Word) : (s.jump target).cpu = { s.cpu with pc := target } := rfl
@[simp] theorem State.jump_irq (s : State) (target : Word) : (s.jump target).irq = s.irq := rfl
@[simp] theorem State.jump_timer (s : State) (target : Word) : (s.jump target).timer = s.timer := rfl
@[simp] theorem State.jump_ppu (s : State) (target : Word) : (s.jump target).ppu = s.ppu := rfl
@[simp] theorem State.jump_joypad (s : State) (target : Word) : (s.jump target).joypad = s.joypad := rfl
@[simp] theorem State.jump_serial (s : State) (target : Word) : (s.jump target).serial = s.serial := rfl
@[simp] theorem State.jump_boot (s : State) (target : Word) : (s.jump target).boot = s.boot := rfl
@[simp] theorem State.jump_cart (s : State) (target : Word) : (s.jump target).cart = s.cart := rfl
@[simp] theorem State.jump_mem (s : State) (target : Word) : (s.jump target).mem = s.mem := rfl
@[simp] theorem State.jump_undefLog (s : State) (target : Word) : (s.jump target).undefLog = s.undefLog := rfl
@[simp] theorem State.jump_cycles (s : State) (target : Word) : (s.jump target).cycles = s.cycles := rfl
@[simp] theorem State.jump_frameDone (s : State) (target : Word) : (s.jump target).frameDone = s.frameDone := rfl
@[simp] theorem State.jump_settings (s : State) (target : Word) : (s.jump target).settings = s.settings := rfl

@[simp] theorem State.beginStep_cpu (s : State) : s.beginStep.cpu = s.cpu := rfl
@[simp] theorem State.beginStep_irq (s : State) : s.beginStep.irq = s.irq := rfl
@[simp] theorem State.beginStep_timer (s : State) : s.beginStep.timer = s.timer := rfl
@[simp] theorem State.beginStep_ppu (s : State) : s.beginStep.ppu = s.ppu := rfl
@[simp] theorem State.beginStep_joypad (s : State) : s.beginStep.joypad = s.joypad := rfl
@[simp] theorem State.beginStep_serial (s : State) : s.beginStep.serial = s.serial := rfl
@[simp] theorem State.beginStep_boot (s : State) : s.beginStep.boot = s.boot := rfl
@[simp] theorem State.beginStep_cart (s : State) : s.beginStep.cart = s.cart := rfl
@[simp] theorem State.beginStep_mem (s : State) : s.beginStep.mem = s.mem := rfl
@[simp] theorem State.beginStep_undefLog (s : State) : s.beginStep.undefLog = s.undefLog := rfl
@[simp] theorem State.beginStep_cycles (s : State) : s.beginStep.cycles = 0 := rfl
@[simp] theorem State.beginStep_frameDone (s : State) : s.beginStep.frameDone = false := rfl
@[simp] theorem State.beginStep_settings (s : State) : s.beginStep.settings = s.settings := rfl

@[simp] theorem imeCommit_cpu (s : State) : (imeCommit s).cpu = s.cpu.commitEi.commitDi := rfl
@[simp] theorem imeCommit_irq (s : State) : (imeCommit s).irq = s.irq := rfl
@[simp] theorem imeCommit_timer (s : State) : (imeCommit s).timer = s.timer := rfl
@[simp] theorem imeCommit_ppu (s : State) : (imeCommit s).ppu = s.ppu := rfl
@[simp] theorem imeCommit_joypad (s : State) : (imeCommit s).joypad = s.joypad := rfl
@[simp] theorem imeCommit_serial (s : State) : (imeCommit s).serial = s.serial := rfl
@[simp] theorem imeCommit_boot (s : State) : (imeCommit s).boot = s.boot := rfl
@[simp] theorem imeCommit_cart (s : State) : (imeCommit s).cart = s.cart := rfl
@[simp] theorem imeCommit_mem (s : State) : (imeCommit s).mem = s.mem := rfl
@[simp] theorem imeCommit_undefLog (s : State) : (imeCommit s).undefLog = s.undefLog := rfl
@[simp] theorem imeCommit_cycles (s : State) : (imeCommit s).cycles = s.cycles := rfl
@[simp] theorem imeCommit_frameDone (s : State) : (imeCommit s).frameDone = s.frameDone := rfl
@[simp] theorem imeCommit_settings (s : State) : (imeCommit s).settings = s.settings := rfl

/-- Two updates of the CPU are one. -/
@[simp] theorem State.onCpu_onCpu (s : State) (g g' : Cpu → Cpu) : (s.onCpu g).onCpu g' = s.onCpu (fun c => g' (g c)) := rfl

/-! ## Updates of the CPU registers -/

@[simp] theorem Cpu.setReg_sp (c : Cpu) (r : Reg8) (v : Byte) : (c.setReg r v).sp = c.sp := by cases r <;> rfl
@[simp] theorem Cpu.setReg_pc (c : Cpu) (r : Reg8) (v : Byte) : (c.setReg r v).pc = c.pc := by cases r <;> rfl
@[simp] theorem Cpu.setReg_ime (c : Cpu) (r : Reg8) (v : Byte) : (c.setReg r v).ime = c.ime := by cases r <;> rfl
@[simp] theorem Cpu.setReg_eiPending (c : Cpu) (r : Reg8) (v : Byte) : (c.setReg r v).eiPending = c.eiPending := by cases r <;> rfl
@[simp] theorem Cpu.setReg_diPending (c : Cpu) (r : Reg8) (v : Byte) : (c.setReg r v).diPending = c.diPending := by cases r <;> rfl
@[simp] theorem Cpu.setReg_halted (c : Cpu) (r : Reg8) (v : Byte) : (c.setReg r v).halted = c.halted := by cases r <;> rfl
@[simp] theorem Cpu.setReg_stopped (c : Cpu) (r : Reg8) (v : Byte) : (c.setReg r v).stopped = c.stopped := by cases r <;> rfl
@[simp] theorem Cpu.setReg_f (c : Cpu) (r : Reg8) (v : Byte) : (c.setReg r v).f = c.f := by cases r <;> rfl

@[simp] theorem Cpu.reg_setReg_same (c : Cpu) (r : Reg8) (v : Byte) : (c.setReg r v).reg r = v := by cases r <;> rfl

theorem Cpu.reg_setReg_other (c : Cpu) (r q : Reg8) (v : Byte) (h : q ≠ r) : (c.setReg r v).reg q = c.reg q := by
  cases r <;> cases q <;> first | rfl | exact absurd rfl h

theorem Cpu.reg_setReg (c : Cpu) (r q : Reg8) (v : Byte) : (c.setReg r v).reg q = if q = r then v else c.reg q := by
  cases r <;> cases q <;> rfl

@[simp] theorem Cpu.setPair_a (c : Cpu) (p : RegPair) (v : Word) : (c.setPair p v).a = c.a := by cases p <;> rfl
@[simp] theorem Cpu.setPair_f (c : Cpu) (p : RegPair) (v : Word) : (c.setPair p v).f = c.f := by cases p <;> rfl
@[simp] theorem Cpu.setPair_pc (c : Cpu) (p : RegPair) (v : Word) : (c.setPair p v).pc = c.pc := by cases p <;> rfl
@[simp] theorem Cpu.setPair_ime (c : Cpu) (p : RegPair) (v : Word) : (c.setPair p v).ime = c.ime := by cases p <;> rfl
@[simp] theorem Cpu.setPair_eiPending (c : Cpu) (p : RegPair) (v : Word) : (c.setPair p v).eiPending = c.eiPending := by cases p <;> rfl
@[simp] theorem Cpu.setPair_diPending (c : Cpu) (p : RegPair) (v : Word) : (c.setPair p v).diPending = c.diPending := by cases p <;> rfl
@[simp] theorem Cpu.setPair_halted (c : Cpu) (p : RegPair) (v : Word) : (c.setPair p v).halted = c.halted := by cases p <;> rfl
@[simp] theorem Cpu.setPair_stopped (c : Cpu) (p : RegPair) (v : Word) : (c.setPair p v).stopped = c.stopped := by cases p <;> rfl

@[simp] theorem Cpu.setStackPair_sp (c : Cpu) (q : StackPair) (v : Word) : (c.setStackPair q v).sp = c.sp := by cases q <;> rfl
@[simp] theorem Cpu.setStackPair_pc (c : Cpu) (q : StackPair) (v : Word) : (c.setStackPair q v).pc = c.pc := by cases q <;> rfl
@[simp] theorem Cpu.setStackPair_ime (c : Cpu) (q : StackPair) (v : Word) : (c.setStackPair q v).ime = c.ime := by cases q <;> rfl
@[simp] theorem Cpu.setStackPair_eiPending (c : Cpu) (q : StackPair) (v : Word) : (c.setStackPair q v).eiPending = c.eiPending := by cases q <;> rfl
@[simp] theorem Cpu.setStackPair_diPending (c : Cpu) (q : StackPair) (v : Word) : (c.setStackPair q v).diPending = c.diPending := by cases q <;> rfl
@[simp] theorem Cpu.setStackPair_halted (c : Cpu) (q : StackPair) (v : Word) : (c.setStackPair q v).halted = c.halted := by cases q <;> rfl
@[simp] theorem Cpu.setStackPair_stopped (c : Cpu) (q : StackPair) (v : Word) : (c.setStackPair q v).stopped = c.stopped := by cases q <;> rfl

@[simp] theorem Cpu.setFlags_a (c : Cpu) (fl : Flags) : (c.setFlags fl).a = c.a := rfl
@[simp] theorem Cpu.setFlags_b (c : Cpu) (fl : Flags) : (c.setFlags fl).b = c.b := rfl
@[simp] theorem Cpu.setFlags_c (c : Cpu) (fl : Flags) : (c.setFlags fl).c = c.c := rfl
@[simp] theorem Cpu.setFlags_d (c : Cpu) (fl : Flags) : (c.setFlags fl).d = c.d := rfl
@[simp] theorem Cpu.setFlags_e (c : Cpu) (fl : Flags) : (c.setFlags fl).e = c.e := rfl
@[simp] theorem Cpu.setFlags_h (c : Cpu) (fl : Flags) : (c.setFlags fl).h = c.h := rfl
@[simp] theorem Cpu.setFlags_l (c : Cpu) (fl : Flags) : (c.setFlags fl).l = c.l := rfl
@[simp] theorem Cpu.setFlags_sp (c : Cpu) (fl : Flags) : (c.setFlags fl).sp = c.sp := rfl
@[simp] theorem Cpu.setFlags_pc (c : Cpu) (fl : Flags) : (c.setFlags fl).pc = c.pc := rfl
@[simp] theorem Cpu.setFlags_ime (c : Cpu) (fl : Flags) : (c.setFlags fl).ime = c.ime := rfl
@[simp] theorem Cpu.setFlags_eiPending (c : Cpu) (fl : Flags) : (c.setFlags fl).eiPending = c.eiPending := rfl
@[simp] theorem Cpu.setFlags_diPending (c : Cpu) (fl : Flags) : (c.setFlags fl).diPending = c.diPending := rfl
@[simp] theorem Cpu.setFlags_halted (c : Cpu) (fl : Flags) : (c.setFlags fl).halted = c.halted := rfl
@[simp] theorem Cpu.setFlags_stopped (c : Cpu) (fl : Flags) : (c.setFlags fl).stopped = c.stopped := rfl

@[simp] theorem Cpu.setFlags_reg (c : Cpu) (fl : Flags) (r : Reg8) : (c.setFlags fl).reg r = c.reg r := by cases r <;> rfl

/-! ## Words and their halves -/

@[simp] theorem Word.hi_ofBytes (hi lo : Byte) : (Word.ofBytes hi lo).hi = hi := by
  apply BitVec.eq_of_getLsbD_eq
  intro i h
  change (BitVec.extractLsb' 8 8 (hi ++ lo : BitVec (8 + 8))).getLsbD i = hi.getLsbD i
  rw [BitVec.getLsbD_extractLsb', BitVec.getLsbD_append]
  simp [h]

@[simp] theorem Word.lo_ofBytes (hi lo : Byte) : (Word.ofBytes hi lo).lo = lo := by
  apply BitVec.eq_of_getLsbD_eq
  intro i h
  change (BitVec.extractLsb' 0 8 (hi ++ lo : BitVec (8 + 8))).getLsbD i = lo.getLsbD i
  rw [BitVec.getLsbD_extractLsb', BitVec.getLsbD_append]
  simp [h]

@[simp] theorem Word.ofBytes_hi_lo (w : Word) : Word.ofBytes w.hi w.lo = w := by
  apply BitVec.eq_of_getLsbD_eq
  intro i h
  change BitVec.getLsbD (w.extractLsb' 8 8 ++ w.extractLsb' 0 8 : BitVec (8 + 8)) i = _
  rw [BitVec.getLsbD_append]
  simp only [BitVec.getLsbD_extractLsb']
  by_cases h8 : i < 8
  · simp [h8]
  · have : i - 8 < 8 := by omega
    simp [h8, this, show 8 + (i - 8) = i by omega]

@[simp] theorem Cpu.pair_setPair (c : Cpu) (p : RegPair) (v : Word) : (c.setPair p v).pair p = v := by
  cases p <;> simp [Cpu.setPair, Cpu.pair, Cpu.bc, Cpu.de, Cpu.hl]

@[simp] theorem Cpu.hl_setPair_hl (c : Cpu) (v : Word) : (c.setPair .hl v).hl = v := Cpu.pair_setPair c .hl v

/-! ## Flags -/

@[simp] theorem Flags.ofByte_toByte (fl : Flags) (old : Byte) : Flags.ofByte (fl.toByte old) = fl := by
  obtain ⟨z, n, h, c⟩ := fl
  have key : ∀ k, (Flags.toByte ⟨z, n, h, c⟩ old).getLsbD k =
      ((((BitVec.ofBool z ++ BitVec.ofBool n) ++ BitVec.ofBool h) ++ BitVec.ofBool c) ++ old.extractLsb' 0 4 :
        BitVec (1 + 1 + 1 + 1 + 4)).getLsbD k := fun _ => rfl
  simp only [Flags.ofByte, key, BitVec.getLsbD_append]
  simp

@[simp] theorem Flags.toByte_low (fl : Flags) (old : Byte) : (fl.toByte old).extractLsb' 0 4 = old.extractLsb' 0 4 := by
  change BitVec.extractLsb' 0 4
    ((((BitVec.ofBool fl.z ++ BitVec.ofBool fl.n) ++ BitVec.ofBool fl.h) ++ BitVec.ofBool fl.c) ++ old.extractLsb' 0 4 :
      BitVec (1 + 1 + 1 + 1 + 4)) = _
  ext i h
  rw [BitVec.getElem_extractLsb', BitVec.getLsbD_append]
  simp [h]

@[simp] theorem Cpu.flags_setFlags (c : Cpu) (fl : Flags) : (c.setFlags fl).flags = fl := Flags.ofByte_toByte fl c.f

@[simp] theorem Cpu.setFlags_f_low (c : Cpu) (fl : Flags) :
    (c.setFlags fl).f.extractLsb' 0 4 = c.f.extractLsb' 0 4 := Flags.toByte_low fl c.f

end Sys2Proof.Machine
end

