-- ==== Sys2Proof/Laws/Bus.lean ====
section
/-! SUPPORT. What one bus access can do: when it succeeds, what a write keeps, and that accesses do not look at the CPU
registers. -/

namespace Sys2Proof.Machine

/-! ## Accesses do not see the CPU, the cycle count or the logs -/

@[simp] theorem busRead_onCpu (a : Word) (s : State) (g : Cpu → Cpu) : busRead a (s.onCpu g) = busRead a s := rfl

@[simp] theorem busRead_charge (a : Word) (s : State) (n : Nat) : busRead a (s.charge n) = busRead a s := rfl

@[simp] theorem busRead_jump (a : Word) (s : State) (pc : Word) : busRead a (s.jump pc) = busRead a s := rfl

theorem busWrite_onCpu (a : Word) (v : Byte) (s : State) (g : Cpu → Cpu) :
    busWrite a v (s.onCpu g) = (busWrite a v s).map (·.onCpu g) := by
  unfold busWrite
  cases ownerOf a <;> try rfl
  all_goals first
    | (simp only [cartWrite, State.onCpu_cart]; cases s.cart.write a v <;> rfl)
    | (simp only []; cases ioRegOf a <;> rfl)

theorem busWrite_charge (a : Word) (v : Byte) (s : State) (n : Nat) :
    busWrite a v (s.charge n) = (busWrite a v s).map (·.charge n) := by
  unfold busWrite
  cases ownerOf a <;> try rfl
  all_goals first
    | (simp only [cartWrite, State.charge_cart]; cases s.cart.write a v <;> rfl)
    | (simp only []; cases ioRegOf a <;> rfl)

/-! ## Success -/

theorem cartOwns_of_cartRead_error {a : Word} {s : State} {f : Fault} (h : cartRead a s = .error f) :
    f = .noCartridge ∧ s.cart = .absent := by
  unfold cartRead at h
  cases hc : s.cart <;> simp_all [Cart.read]

/-- With a cartridge present every read succeeds (R74, R79). -/
theorem busRead_ok {s : State} (h : s.cart.present = true) (a : Word) : ∃ v, busRead a s = .ok v := by
  have hc : ∃ v, cartRead a s = .ok v := by
    unfold cartRead
    cases hs : s.cart <;> simp_all [Cart.read, Cart.present]
  unfold busRead
  cases ownerOf a <;> simp [hc]
  split <;> simp [hc]

/-- With a cartridge present every write succeeds (R74, R79). -/
theorem busWrite_ok {s : State} (h : s.cart.present = true) (a : Word) (v : Byte) : ∃ m, busWrite a v s = .ok m := by
  have hc : ∃ m, cartWrite a v s = .ok m := by
    unfold cartWrite
    cases hs : s.cart <;> simp_all [Cart.write, Cart.present]
  unfold busWrite
  cases ownerOf a <;> simp [hc]

/-- A read fails only for want of a cartridge (R79). -/
theorem busRead_error {a : Word} {s : State} {f : Fault} (h : busRead a s = .error f) :
    f = .noCartridge ∧ s.cart = .absent ∧ cartOwns a = true := by
  unfold busRead at h
  unfold cartOwns
  cases ho : ownerOf a <;> simp only [ho] at h ⊢ <;> try simp at h
  · split at h
    · simp at h
    · have := cartOwns_of_cartRead_error h; simp [this]
  all_goals have := cartOwns_of_cartRead_error h; simp [this]

/-- A write fails only for want of a cartridge (R79). -/
theorem busWrite_error {a : Word} {v : Byte} {s : State} {f : Fault} (h : busWrite a v s = .error f) :
    f = .noCartridge ∧ s.cart = .absent ∧ cartOwns a = true := by
  unfold busWrite at h
  unfold cartOwns
  cases ho : ownerOf a <;> simp only [ho] at h ⊢ <;> try simp at h
  all_goals
    unfold cartWrite at h
    cases hs : s.cart <;> simp_all [Cart.write]

/-! ## What a write keeps -/

theorem unitsKept.refl (s : State) : unitsKept s s := by
  constructor <;> first | rfl | exact .inl rfl | exact id

theorem unitsKept.trans {s t u : State} (h : unitsKept s t) (k : unitsKept t u) : unitsKept s u where
  settings := k.settings.trans h.settings
  frameDone := k.frameDone.trans h.frameDone
  image := k.image.trans h.image
  bootEnabled := k.bootEnabled.trans h.bootEnabled
  bootLatch := fun hb => k.bootLatch (h.bootLatch hb)
  lastAnd := k.lastAnd.trans h.lastAnd
  divider := k.divider.elim (fun e => h.divider.elim (fun d => .inl (e.trans d)) fun d => .inr (e.trans d)) .inr
  dot := k.dot.trans h.dot
  ly := k.ly.trans h.ly
  fstate := k.fstate.trans h.fstate
  fetcherX := k.fetcherX.trans h.fetcherX
  tileIndex := k.tileIndex.trans h.tileIndex
  tileLo := k.tileLo.trans h.tileLo
  tileHi := k.tileHi.trans h.tileHi
  fifo := k.fifo.trans h.fifo
  lx := k.lx.trans h.lx
  statLine := k.statLine.trans h.statLine
  statLow := k.statLow.trans h.statLow
  fb := k.fb.trans h.fb
  dirs := k.dirs.trans h.dirs
  buttons := k.buttons.trans h.buttons
  serialOut := h.serialOut.trans k.serialOut
  undefLog := h.undefLog.trans k.undefLog

/-- A STAT write keeps bits 2 to 0 (R41). -/
theorem stat_write_low (v old : Byte) :
    ((v &&& 0xF8) ||| (old &&& 0x07)).extractLsb' 0 3 = old.extractLsb' 0 3 := by
  ext i hi
  have : i = 0 ∨ i = 1 ∨ i = 2 := by omega
  rcases this with rfl | rfl | rfl <;> simp

/-- A cartridge write keeps the image. -/
theorem Cart.image_write {c d : Cart} {a : Word} {v : Byte} (h : c.write a v = some d) : d.image? = c.image? := by
  cases c <;> simp [Cart.write] at h <;> subst h <;> rfl

theorem Cart.present_write {c d : Cart} {a : Word} {v : Byte} (h : c.write a v = some d) : d.present = c.present := by
  cases c <;> simp [Cart.write] at h <;> subst h <;> rfl

theorem ioWrite_unitsKept (r : IoReg) (a : Word) (v : Byte) (s : State) : unitsKept s (ioWrite r a v s) := by
  cases r
  case stat => constructor <;> first | rfl | exact .inl rfl | exact id | exact List.prefix_refl _ | exact stat_write_low _ _
  case div => constructor <;> first | rfl | exact .inr rfl | exact id
  case sc =>
    constructor <;> first | rfl | exact .inl rfl | exact id | exact List.prefix_refl _ | skip
    simp only [ioWrite, Serial.writeSc]
    split
    · exact List.prefix_append _ _
    · exact List.prefix_refl _
  case bootOff =>
    constructor <;> first | rfl | exact .inl rfl | skip
    intro h; simp [ioWrite, Boot.write, h]
  all_goals constructor <;> first | rfl | exact .inl rfl | exact id

/-- A bus write changes nothing of the units but what it writes (R86). -/
theorem busWrite_unitsKept {a : Word} {v : Byte} {s m : State} (h : busWrite a v s = .ok m) : unitsKept s m := by
  unfold busWrite at h
  cases ho : ownerOf a <;> simp only [ho] at h
  case io => cases h; exact ioWrite_unitsKept _ _ _ _
  case bootOrCart | cartRom | extRam =>
    unfold cartWrite at h
    cases hw : s.cart.write a v with
    | none => simp [hw] at h
    | some c =>
      simp only [hw] at h
      cases h
      constructor <;> first | rfl | exact .inl rfl | exact id | exact List.prefix_refl _ | exact Cart.image_write hw
  all_goals
    cases h
    constructor <;> first | rfl | exact .inl rfl | exact id

/-- A bus write changes no CPU register, no cycle count and no log. -/
theorem busWrite_cpu {a : Word} {v : Byte} {s m : State} (h : busWrite a v s = .ok m) :
    m.cpu = s.cpu ∧ m.cycles = s.cycles ∧ m.undefLog = s.undefLog := by
  unfold busWrite at h
  cases ho : ownerOf a <;> simp only [ho] at h
  case io => cases h; cases ioRegOf a <;> exact ⟨rfl, rfl, rfl⟩
  case bootOrCart | cartRom | extRam =>
    unfold cartWrite at h
    cases hw : s.cart.write a v <;> simp only [hw] at h <;> cases h
    exact ⟨rfl, rfl, rfl⟩
  all_goals cases h; exact ⟨rfl, rfl, rfl⟩

theorem busWrite_present {a : Word} {v : Byte} {s m : State} (h : busWrite a v s = .ok m) :
    m.cart.present = s.cart.present := by
  have := (busWrite_unitsKept h).image
  revert this
  cases m.cart <;> cases s.cart <;> simp [Cart.image?, Cart.present]

/-- The key a storage address is kept under is a storage key. -/
theorem isStorageKey_of_storageKey {a : Word} {k : Nat} (h : storageKey a = some k) : isStorageKey k = true := by
  have key : ∀ b : Word, storageKey b = some b.toNat → isStorageKey b.toNat = true := by
    intro b hb
    simp [isStorageKey, hb, b.isLt]
  by_cases he : ownerOf a = .echo
  · simp only [storageKey, he, Option.some.injEq] at h
    have hr : 0xE000 ≤ a.toNat ∧ a.toNat < 0xFE00 := by
      unfold ownerOf at he
      simp only at he
      repeat' split at he
      all_goals first | omega | cases he
    have hk : (a - 0x2000).toNat = k := by
      have : (0x2000 : Word).toNat = 0x2000 := rfl
      rw [BitVec.toNat_sub_of_le (by rw [BitVec.le_def]; omega), this, h]
    rw [← hk]
    refine key _ ?_
    have ho : ownerOf (a - 0x2000) = .wram := by
      unfold ownerOf
      simp only [hk]
      rw [← h]
      repeat' split
      all_goals first | rfl | omega
    unfold storageKey
    rw [ho]
  · have hk : k = a.toNat := by
      unfold storageKey at h
      cases ho : ownerOf a <;> simp only [ho] at h he <;> try simp_all
    subst hk
    exact key a h

/-- A bus write keeps the memory canonical. -/
theorem busWrite_memWf {a : Word} {v : Byte} {s m : State} (h : busWrite a v s = .ok m) (hm : s.mem.wf = true) :
    m.mem.wf = true := by
  have key : ∀ k, storageKey a = some k → (s.mem.write k v).wf = true :=
    fun k hk => Memory.wf_write hm v (isStorageKey_of_storageKey hk)
  unfold busWrite at h
  cases ho : ownerOf a <;> simp only [ho] at h
  case io =>
    cases h
    cases hr : ioRegOf a <;> try exact hm
    exact key _ (by simp [storageKey, ho, hr])
  case bootOrCart | cartRom | extRam =>
    unfold cartWrite at h
    cases hw : s.cart.write a v <;> simp only [hw] at h <;> cases h
    exact hm
  case unusable | ie => cases h; exact hm
  all_goals cases h; exact key _ (by simp [storageKey, ho])

end Sys2Proof.Machine
end

