-- ==== Sys2Proof/Laws/Ops.lean ====
section
/-! SUPPORT. One law per shared operation: what it answers when its accesses succeed, and everything it can have done
when it answers a next state. -/

namespace Sys2Proof.Machine

/-! ## Every outcome of a meaning is of one shape

`Post o P` says that the next state, if `o` is one, satisfies `P`: the laws below push it through each operation, so that
a property of every instruction is one lemma per shared form. -/

/-- The next state, if there is one, satisfies `P`. -/
def Post (o : Out) (P : State → Prop) : Prop := ∀ t, o = .next t → P t

theorem post_next {s : State} {P : State → Prop} (h : P s) : Post (.next s) P := fun t e => by cases e; exact h

theorem post_finish {n : Nat} {s : State} {P : State → Prop} (h : P (s.charge n)) : Post (finish n s) P := post_next h

theorem post_withRead {a : Word} {s : State} {k : Byte → Out} {P : State → Prop}
    (h : ∀ v, busRead a s = .ok v → Post (k v) P) : Post (withRead a s k) P := by
  unfold withRead
  cases hr : busRead a s with
  | ok v => exact h v hr
  | error f => intro t e; cases e

theorem post_withWrite {a : Word} {v : Byte} {s : State} {k : State → Out} {P : State → Prop}
    (h : ∀ m, busWrite a v s = .ok m → Post (k m) P) : Post (withWrite a v s k) P := by
  unfold withWrite
  cases hw : busWrite a v s with
  | ok m => exact h m hw
  | error f => intro t e; cases e

theorem post_ite {c : Prop} [Decidable c] {o p : Out} {P : State → Prop} (h : c → Post o P) (k : ¬ c → Post p P) :
    Post (if c then o else p) P := by
  split
  · exact h ‹_›
  · exact k ‹_›

@[simp] theorem onNext_next (g : State → State) (s : State) : onNext g (.next s) = .next (g s) := rfl

@[simp] theorem onNext_fault (g : State → State) (f : Fault) : onNext g (.fault f) = .fault f := rfl

/-- `onNext` answers next exactly when its argument does. -/
theorem onNext_eq_next {g : State → State} {o : Out} {t : State} :
    onNext g o = .next t ↔ ∃ s, o = .next s ∧ g s = t := by
  cases o <;> simp [onNext]

/-! ## Answers, from the accesses -/

theorem withRead_eq {a : Word} {s : State} {k : Byte → Out} {v : Byte} (h : busRead a s = .ok v) :
    withRead a s k = k v := by simp [withRead, h]

theorem withRead_fault {a : Word} {s : State} {k : Byte → Out} {f : Fault} (h : busRead a s = .error f) :
    withRead a s k = .fault f := by simp [withRead, h]

theorem withWrite_eq {a : Word} {v : Byte} {s m : State} {k : State → Out} (h : busWrite a v s = .ok m) :
    withWrite a v s k = k m := by simp [withWrite, h]

theorem withWrite_fault {a : Word} {v : Byte} {s : State} {k : State → Out} {f : Fault}
    (h : busWrite a v s = .error f) : withWrite a v s k = .fault f := by simp [withWrite, h]

/-- `withRead` answers next exactly when the read succeeds and what follows answers next. -/
theorem withRead_next {a : Word} {s t : State} {k : Byte → Out} :
    withRead a s k = .next t ↔ ∃ v, busRead a s = .ok v ∧ k v = .next t := by
  unfold withRead
  cases busRead a s <;> simp

/-- `withWrite` answers next exactly when the write succeeds and what follows answers next. -/
theorem withWrite_next {a : Word} {v : Byte} {s t : State} {k : State → Out} :
    withWrite a v s k = .next t ↔ ∃ m, busWrite a v s = .ok m ∧ k m = .next t := by
  unfold withWrite
  cases busWrite a v s <;> simp

/-- A two-byte store is the low byte's store, then the high byte's at the next address (R81). -/
theorem withWrite16_eq {a v : Word} {s m n : State} {k : State → Out} (h : busWrite a v.lo s = .ok m)
    (h' : busWrite (a + 1) v.hi m = .ok n) : withWrite16 a v s k = k n := by
  unfold withWrite16
  rw [withWrite_eq h, withWrite_eq h']

/-- `push16` stores the high byte at SP - 1, then the low byte at SP - 2, and leaves SP two lower (R82). -/
theorem push16_eq {v : Word} {s m n : State} {k : State → Out} (h : busWrite (s.cpu.sp - 1) v.hi s = .ok m)
    (h' : busWrite (s.cpu.sp - 2) v.lo m = .ok n) :
    push16 v s k = k (n.onCpu fun c => { c with sp := s.cpu.sp - 2 }) := by
  have hm := (busWrite_cpu h).1
  have hn := (busWrite_cpu h').1
  have e2 : s.cpu.sp - 1 - 1 = s.cpu.sp - 2 := by bv_omega
  unfold push16
  simp only [State.onCpu_cpu]
  rw [withWrite_eq (show busWrite (s.cpu.sp - 1) v.hi (s.onCpu _) = _ by rw [busWrite_onCpu, h]; rfl)]
  simp only [State.onCpu_onCpu, State.onCpu_cpu, hm, e2]
  rw [withWrite_eq (show busWrite (s.cpu.sp - 2) v.lo (m.onCpu _) = _ by rw [busWrite_onCpu, h']; rfl)]
  congr 1
  simp only [State.onCpu, hn, hm, e2]

/-- `pop16` answers what follows from the word whose low byte is at SP and high byte at SP + 1, with SP two higher
(R82). -/
theorem pop16_eq {s : State} {lo hi : Byte} {k : Word → State → Out} (h : busRead s.cpu.sp s = .ok lo)
    (h' : busRead (s.cpu.sp + 1) s = .ok hi) :
    pop16 s k = k (Word.ofBytes hi lo) (s.onCpu fun c => { c with sp := c.sp + 2 }) := by
  have e2 : s.cpu.sp + 1 + 1 = s.cpu.sp + 2 := by bv_omega
  unfold pop16
  rw [withRead_eq h]
  simp only [State.onCpu_cpu]
  rw [withRead_eq (show busRead (s.cpu.sp + 1) (s.onCpu _) = _ by rw [busRead_onCpu, h'])]
  simp only [State.onCpu, e2]

theorem fetch8_eq {s : State} {v : Byte} {k : Byte → State → Out} (h : busRead s.cpu.pc s = .ok v) :
    fetch8 s k = k v (s.onCpu fun c => { c with pc := c.pc + 1 }) := by simp [fetch8, withRead_eq h]

/-! ## Post through the composite operations -/

theorem post_withWrite16 {a v : Word} {s : State} {k : State → Out} {P : State → Prop}
    (h : ∀ m n, busWrite a v.lo s = .ok m → busWrite (a + 1) v.hi m = .ok n → Post (k n) P) :
    Post (withWrite16 a v s k) P :=
  post_withWrite fun m hm => post_withWrite fun n hn => h m n hm hn

theorem post_push16 {v : Word} {s : State} {k : State → Out} {P : State → Prop}
    (h : ∀ m n, busWrite (s.cpu.sp - 1) v.hi s = .ok m → busWrite (s.cpu.sp - 2) v.lo m = .ok n →
      Post (k (n.onCpu fun c => { c with sp := s.cpu.sp - 2 })) P) : Post (push16 v s k) P := by
  cases hm : busWrite (s.cpu.sp - 1) v.hi s with
  | error f =>
    intro t e
    unfold push16 at e
    rw [withWrite_fault (f := f)] at e
    · cases e
    · rw [State.onCpu_cpu, busWrite_onCpu, hm]; rfl
  | ok m =>
    cases hn : busWrite (s.cpu.sp - 2) v.lo m with
    | error f =>
      intro t e
      have e2 : s.cpu.sp - 1 - 1 = s.cpu.sp - 2 := by bv_omega
      unfold push16 at e
      simp only [State.onCpu_cpu] at e
      rw [withWrite_eq (show busWrite (s.cpu.sp - 1) v.hi (s.onCpu _) = _ by rw [busWrite_onCpu, hm]; rfl)] at e
      simp only [State.onCpu_onCpu, State.onCpu_cpu, (busWrite_cpu hm).1, e2] at e
      rw [withWrite_fault (f := f)] at e
      · cases e
      · rw [busWrite_onCpu, hn]; rfl
    | ok n => rw [push16_eq hm hn]; exact h m n hm hn

theorem post_pop16 {s : State} {k : Word → State → Out} {P : State → Prop}
    (h : ∀ lo hi, busRead s.cpu.sp s = .ok lo → busRead (s.cpu.sp + 1) s = .ok hi →
      Post (k (Word.ofBytes hi lo) (s.onCpu fun c => { c with sp := c.sp + 2 })) P) : Post (pop16 s k) P := by
  cases hl : busRead s.cpu.sp s with
  | error f => intro t e; unfold pop16 at e; rw [withRead_fault hl] at e; cases e
  | ok lo =>
    cases hh : busRead (s.cpu.sp + 1) s with
    | error f =>
      intro t e
      unfold pop16 at e
      rw [withRead_eq hl] at e
      simp only [State.onCpu_cpu] at e
      rw [withRead_fault (f := f) (by rw [busRead_onCpu, hh])] at e
      cases e
    | ok hi => rw [pop16_eq hl hh]; exact h lo hi hl hh

theorem post_fetch8 {s : State} {k : Byte → State → Out} {P : State → Prop}
    (h : ∀ v, busRead s.cpu.pc s = .ok v → Post (k v (s.onCpu fun c => { c with pc := c.pc + 1 })) P) :
    Post (fetch8 s k) P :=
  post_withRead h

/-! ## Operand locations -/

theorem readLoc_eq {x : Loc} {s : State} {v : Byte} {k : Byte → Out} (h : locHolds x s v) : readLoc x s k = k v := by
  cases x with
  | reg r => simp only [readLoc]; rw [show s.cpu.reg r = v from h]
  | atHl => exact withRead_eq h

theorem writeLoc_eq {x : Loc} {s m : State} {v : Byte} {k : State → Out} (h : locWritten x v s m) :
    writeLoc x v s k = k m := by
  cases x with
  | reg r => simp only [writeLoc]; rw [show m = _ from h]; rfl
  | atHl => exact withWrite_eq h

theorem modifyLoc_eq {x : Loc} {s m : State} {g : Byte → Byte} {v : Byte} {k : Byte → State → Out}
    (h : locHolds x s v) (h' : locWritten x (g v) s m) : modifyLoc x g s k = k v m := by
  unfold modifyLoc
  rw [readLoc_eq h, writeLoc_eq h']

theorem aluOperand_eq {src : AluSrc} {s : State} {v : Byte} {k : Byte → Out} (h : aluSrcHolds src s v) :
    aluOperand src s k = k v := by
  cases src with
  | loc x => exact readLoc_eq h
  | imm n => simp only [aluOperand]; rw [show n = v from h]

theorem post_readLoc {x : Loc} {s : State} {k : Byte → Out} {P : State → Prop}
    (h : ∀ v, locHolds x s v → Post (k v) P) : Post (readLoc x s k) P := by
  cases x with
  | reg r => exact h _ rfl
  | atHl => exact post_withRead h

theorem post_writeLoc {x : Loc} {s : State} {v : Byte} {k : State → Out} {P : State → Prop}
    (h : ∀ m, locWritten x v s m → Post (k m) P) : Post (writeLoc x v s k) P := by
  cases x with
  | reg r => exact h _ rfl
  | atHl => exact post_withWrite h

theorem post_modifyLoc {x : Loc} {s : State} {g : Byte → Byte} {k : Byte → State → Out} {P : State → Prop}
    (h : ∀ v m, locHolds x s v → locWritten x (g v) s m → Post (k v m) P) : Post (modifyLoc x g s k) P :=
  post_readLoc fun v hv => post_writeLoc fun m hm => h v m hv hm

theorem post_aluOperand {src : AluSrc} {s : State} {k : Byte → Out} {P : State → Prop}
    (h : ∀ v, aluSrcHolds src s v → Post (k v) P) : Post (aluOperand src s k) P := by
  cases src with
  | loc x => exact post_readLoc h
  | imm n => exact h _ rfl

end Sys2Proof.Machine
end

