-- ==== Sys2Proof/Laws/Engine.lean ====
section
/-! SUPPORT. The laws of the step engine: the phases of a CPU step as equations, and what the timer's and the PPU's ticks
can change. -/

namespace Sys2Proof.Machine

/-! ## The phases of a CPU step -/

/-- A next state of `step` is a next state of the CPU step, advanced by the cycles it used (R111). -/
theorem step_eq_next {s t : State} : step s = .next t ↔ ∃ u, cpuStep exec s = .next u ∧ advance u = t :=
  onNext_eq_next

/-- Without a pending interrupt, or with IME off, phase 2 only wakes the CPU (R207, R208). -/
theorem interruptCheck_quiet {s : State} {k : Bool → State → Out}
    (h : (wakeFromStop (wakeFromHalt s)).cpu.ime = false ∨ (wakeFromStop (wakeFromHalt s)).irq.pending = 0) :
    interruptCheck s k = k false (wakeFromStop (wakeFromHalt s)) := by
  unfold interruptCheck
  rcases h with h | h <;> simp [h]

/-- With one pending and IME on, phase 2 takes the lowest (R205, R209). -/
theorem interruptCheck_taken {s : State} {k : Bool → State → Out}
    (h : (wakeFromStop (wakeFromHalt s)).cpu.ime = true) (hp : (wakeFromStop (wakeFromHalt s)).irq.pending ≠ 0) :
    interruptCheck s k =
      takeInterrupt (lowestPending (wakeFromStop (wakeFromHalt s)).irq.pending) (wakeFromStop (wakeFromHalt s)) (k true) := by
  unfold interruptCheck
  exact if_pos ⟨h, hp⟩

@[simp] theorem wakeFromHalt_irq (s : State) : (wakeFromHalt s).irq = s.irq := by unfold wakeFromHalt; split <;> rfl

@[simp] theorem wakeFromStop_irq (s : State) : (wakeFromStop s).irq = s.irq := by unfold wakeFromStop; split <;> rfl

@[simp] theorem wakeFromHalt_ime (s : State) : (wakeFromHalt s).cpu.ime = s.cpu.ime := by
  unfold wakeFromHalt; split <;> rfl

@[simp] theorem wakeFromStop_ime (s : State) : (wakeFromStop s).cpu.ime = s.cpu.ime := by
  unfold wakeFromStop; split <;> rfl

@[simp] theorem wakeFromHalt_settings (s : State) : (wakeFromHalt s).settings = s.settings := by
  unfold wakeFromHalt; split <;> rfl

@[simp] theorem wakeFromStop_settings (s : State) : (wakeFromStop s).settings = s.settings := by
  unfold wakeFromStop; split <;> rfl

/-- The waking phases change the CPU's `halted` and `stopped` alone. -/
theorem wake_eq (s : State) : ∃ h p, wakeFromStop (wakeFromHalt s) = s.onCpu fun c => { c with halted := h, stopped := p } := by
  unfold wakeFromStop wakeFromHalt
  split <;> split
  · exact ⟨s.cpu.halted, false, rfl⟩
  · exact ⟨s.cpu.halted, s.cpu.stopped, rfl⟩
  · exact ⟨false, false, rfl⟩
  · exact ⟨false, s.cpu.stopped, rfl⟩

/-- A pending interrupt, whatever IME holds, ends HALT (R207). -/
theorem wakeFromHalt_eq (s : State) :
    wakeFromHalt s = s.onCpu fun c => { c with halted := c.halted && decide (s.irq.pending = 0) } := by
  unfold wakeFromHalt
  by_cases h : s.irq.pending = 0
  · rw [if_pos h, decide_eq_true h]; simp only [State.onCpu, Bool.and_true]
  · rw [if_neg h, decide_eq_false h]; simp only [State.onCpu, Bool.and_false]

/-- IF bit 4 ends STOP, under `HaltUntilJoypad` alone (R208). -/
theorem wakeFromStop_eq (s : State) :
    wakeFromStop s = s.onCpu fun c => { c with
      stopped := c.stopped && !(decide (s.settings.stopMode = .haltUntilJoypad) && s.irq.ifr.getLsbD 4) } := by
  unfold wakeFromStop
  by_cases h : s.settings.stopMode = .haltUntilJoypad
  · cases h' : s.irq.ifr.getLsbD 4
    · rw [if_neg (by simp), Bool.and_false, Bool.not_false]; simp only [State.onCpu, Bool.and_true]
    · rw [if_pos ⟨h, rfl⟩, decide_eq_true h]; unfold State.onCpu; simp
  · rw [if_neg (fun k => h k.1), decide_eq_false h, Bool.false_and, Bool.not_false]
    simp only [State.onCpu, Bool.and_true]

/-! ## Repeated ticks -/

theorem ticks_add (tick : State → State) (m n : Nat) (s : State) :
    ticks tick (m + n) s = ticks tick n (ticks tick m s) := by
  induction m generalizing s with
  | zero => simp [ticks]
  | succ m ih => rw [Nat.add_right_comm]; exact ih (tick s)

theorem ticks_succ_last (tick : State → State) (n : Nat) (s : State) :
    ticks tick (n + 1) s = tick (ticks tick n s) := ticks_add tick n 1 s

/-- What every tick keeps, every number of ticks keeps. -/
theorem ticks_induct {tick : State → State} {R : State → State → Prop} (refl : ∀ s, R s s)
    (step : ∀ s t, R s t → R s (tick t)) (n : Nat) (s : State) : R s (ticks tick n s) := by
  induction n with
  | zero => exact refl s
  | succ n ih => rw [ticks_succ_last]; exact step _ _ ih

/-! ## The timer -/

@[simp] theorem timerTick_cpu (s : State) : (timerTick s).cpu = s.cpu := rfl
@[simp] theorem timerTick_ppu (s : State) : (timerTick s).ppu = s.ppu := rfl
@[simp] theorem timerTick_mem (s : State) : (timerTick s).mem = s.mem := rfl
@[simp] theorem timerTick_cycles (s : State) : (timerTick s).cycles = s.cycles := rfl
@[simp] theorem timerTick_settings (s : State) : (timerTick s).settings = s.settings := rfl
@[simp] theorem timerTick_timer (s : State) : (timerTick s).timer = s.timer.tick.1 := rfl

@[simp] theorem Timer.tick_div (t : Timer) : t.tick.1.div = t.div + 1 := by unfold Timer.tick; dsimp only; split <;> [split; skip] <;> rfl

@[simp] theorem Timer.tick_lastAnd (t : Timer) : t.tick.1.lastAnd = timerAnd (t.div + 1) t.tac := by
  unfold Timer.tick; dsimp only; split <;> [split; skip] <;> rfl

@[simp] theorem Timer.tick_tac (t : Timer) : t.tick.1.tac = t.tac := by unfold Timer.tick; dsimp only; split <;> [split; skip] <;> rfl

@[simp] theorem Timer.tick_tma (t : Timer) : t.tick.1.tma = t.tma := by unfold Timer.tick; dsimp only; split <;> [split; skip] <;> rfl

/-- A falling edge: TIMA counts, or from 0xFF is reloaded with interrupt 2 requested (R216). -/
theorem timerTick_fall {s : State} (h : s.timer.lastAnd = true) (h' : timerAnd (s.timer.div + 1) s.timer.tac = false) :
    timerTick s = { s with
      timer := { s.timer with
        div := s.timer.div + 1
        lastAnd := false
        tima := if s.timer.tima = 0xFF then s.timer.tma else s.timer.tima + 1 }
      irq := { s.irq with ifr := if s.timer.tima = 0xFF then s.irq.ifr ||| 0x04 else s.irq.ifr } } := by
  unfold timerTick Timer.tick
  simp only [h, h']
  by_cases e : s.timer.tima = 0xFF
  · simp only [if_pos e]; rfl
  · simp only [if_neg e]; rfl

/-- The timer's ticks change the timer and IF alone. -/
theorem timerTicks_eq (n : Nat) (s : State) : ∃ tm q, ticks timerTick n s = { s with timer := tm, irq := q } :=
  ticks_induct (R := fun s t => ∃ tm q, t = { s with timer := tm, irq := q }) (fun s => ⟨s.timer, s.irq, rfl⟩)
    (fun s t h => by obtain ⟨tm, q, rfl⟩ := h; exact ⟨_, _, rfl⟩) n s

/-! ## The PPU -/

@[simp] theorem ppuTick_cpu (s : State) : (ppuTick s).cpu = s.cpu := rfl
@[simp] theorem ppuTick_timer (s : State) : (ppuTick s).timer = s.timer := rfl
@[simp] theorem ppuTick_mem (s : State) : (ppuTick s).mem = s.mem := rfl
@[simp] theorem ppuTick_cycles (s : State) : (ppuTick s).cycles = s.cycles := rfl
@[simp] theorem ppuTick_settings (s : State) : (ppuTick s).settings = s.settings := rfl
@[simp] theorem ppuTick_ppu (s : State) : (ppuTick s).ppu = (s.ppu.tick s.settings s.mem).1 := rfl

/-- The PPU's ticks change the PPU, IF and the frame flag alone. -/
theorem ppuTicks_eq (n : Nat) (s : State) :
    ∃ p q d, ticks ppuTick n s = { s with ppu := p, irq := q, frameDone := d } :=
  ticks_induct (R := fun s t => ∃ p q d, t = { s with ppu := p, irq := q, frameDone := d })
    (fun s => ⟨s.ppu, s.irq, s.frameDone, rfl⟩) (fun s t h => by obtain ⟨p, q, d, rfl⟩ := h; exact ⟨_, _, _, rfl⟩) n s

/-- After the CPU step only the timer, the PPU, IF and the frame flag change. -/
theorem advance_eq (s : State) :
    ∃ tm p q d, advance s = { s with timer := tm, ppu := p, irq := q, frameDone := d } := by
  obtain ⟨tm, q, h⟩ := timerTicks_eq s.cycles s
  obtain ⟨p, q', d, h'⟩ := ppuTicks_eq s.cycles (ticks timerTick s.cycles s)
  exact ⟨tm, p, q', d, by unfold advance; rw [h', h]⟩

/-- The tick outside `FrozenAtLine0`, stage by stage (R219). -/
theorem Ppu.tick_running {st : Settings} {mem : Memory} {p : Ppu}
    (h : ¬ (st.lcdOff = .frozenAtLine0 ∧ p.lcdOn = false)) :
    (p.tick st mem).1 =
      { ((p.advance.actAt st.fetchPhase mem (ppuMode p.advance.ly p.advance.dot p.advance.lcdOn)).setStatLow
          (decide (p.advance.ly = p.advance.lyc.toNat)) (ppuMode p.advance.ly p.advance.dot p.advance.lcdOn).code) with
        statLine := ((p.advance.actAt st.fetchPhase mem (ppuMode p.advance.ly p.advance.dot p.advance.lcdOn)).setStatLow
          (decide (p.advance.ly = p.advance.lyc.toNat)) (ppuMode p.advance.ly p.advance.dot p.advance.lcdOn).code).statCondition
          (ppuMode p.advance.ly p.advance.dot p.advance.lcdOn) } := by
  unfold Ppu.tick
  rw [if_neg h]

end Sys2Proof.Machine
end

