-- ==== Sys2Proof/Laws/Families.lean ====
section
/-! SUPPORT. What a family of instructions (Decode.lean's functions of the operand fields) runs: one equation a family, so
that no later proof goes through the constructors one by one. -/

namespace Sys2Proof.Machine

theorem exec_ldRegReg (y z : Reg8) (s : State) : exec (Instr.ldRegReg y z) s = ldRegReg y z s := by
  cases y <;> cases z <;> rfl

theorem exec_ldRegImm (y : Reg8) (n : Byte) (s : State) : exec (Instr.ldRegImm y n) s = ldRegImm y n s := by
  cases y <;> rfl

theorem exec_ldRegHl (y : Reg8) (s : State) : exec (Instr.ldRegHl y) s = ldRegHl y s := by cases y <;> rfl

theorem exec_ldHlReg (z : Reg8) (s : State) : exec (Instr.ldHlReg z) s = ldHlReg z s := by cases z <;> rfl

theorem exec_ldPair (p : RegPair) (nn : Word) (s : State) : exec (Instr.ldPair p nn) s = ldPairImm p nn s := by
  cases p <;> rfl

theorem exec_push (q : StackPair) (s : State) : exec (Instr.push q) s = pushPair q s := by cases q <;> rfl

theorem exec_pop (q : StackPair) (s : State) : exec (Instr.pop q) s = popPair q s := by cases q <;> rfl

theorem exec_alu (op : AluOp) (src : AluSrc) (s : State) :
    exec (Instr.alu op src) s = aluAcc op src (aluCycles src) s := by
  rcases src with (⟨⟨⟩⟩ | ⟨⟩) | ⟨⟩ <;> cases op <;> rfl

theorem exec_inc8 (x : Loc) (s : State) : exec (Instr.inc8 x) s = incLoc x (if x = .atHl then 12 else 4) s := by
  rcases x with ⟨⟨⟩⟩ | ⟨⟩ <;> rfl

theorem exec_dec8 (x : Loc) (s : State) : exec (Instr.dec8 x) s = decLoc x (if x = .atHl then 12 else 4) s := by
  rcases x with ⟨⟨⟩⟩ | ⟨⟩ <;> rfl

theorem exec_addHl (p : RegPair) (s : State) : exec (Instr.addHl p) s = addHlPair p s := by cases p <;> rfl

theorem exec_inc16 (p : RegPair) (s : State) : exec (Instr.inc16 p) s = stepPair p 1 s := by cases p <;> rfl

theorem exec_dec16 (p : RegPair) (s : State) : exec (Instr.dec16 p) s = stepPair p (-1) s := by cases p <;> rfl

theorem exec_shift (op : ShiftOp) (x : Loc) (s : State) :
    exec (Instr.shift op x) s = shiftLoc op x (if x = .atHl then 16 else 8) s := by
  rcases x with ⟨⟨⟩⟩ | ⟨⟩ <;> cases op <;> rfl

theorem exec_bitLoc (b : Fin 8) (x : Loc) (s : State) :
    exec (Instr.bitLoc b x) s = bitLoc b x (if x = .atHl then 12 else 8) s := by
  rcases x with ⟨⟨⟩⟩ | ⟨⟩ <;> fin_cases b <;> rfl

theorem exec_resLoc (b : Fin 8) (x : Loc) (s : State) :
    exec (Instr.resLoc b x) s = resLoc b x (if x = .atHl then 16 else 8) s := by
  rcases x with ⟨⟨⟩⟩ | ⟨⟩ <;> fin_cases b <;> rfl

theorem exec_setLoc (b : Fin 8) (x : Loc) (s : State) :
    exec (Instr.setLoc b x) s = setLoc b x (if x = .atHl then 16 else 8) s := by
  rcases x with ⟨⟨⟩⟩ | ⟨⟩ <;> fin_cases b <;> rfl

theorem exec_jpCond (cc : Cond) (nn : Word) (s : State) : exec (Instr.jpCond cc nn) s = jpIf cc nn s := by cases cc <;> rfl

theorem exec_jrCond (cc : Cond) (e : Byte) (s : State) : exec (Instr.jrCond cc e) s = jrIf cc e s := by cases cc <;> rfl

theorem exec_callCond (cc : Cond) (nn : Word) (s : State) : exec (Instr.callCond cc nn) s = callIf cc nn s := by
  cases cc <;> rfl

theorem exec_retCond (cc : Cond) (s : State) : exec (Instr.retCond cc) s = retIf cc s := by cases cc <;> rfl

theorem exec_rst (y : Fin 8) (s : State) : exec (Instr.rst y) s = callTo (BitVec.ofNat 16 (8 * y.val)) 16 s := by
  fin_cases y <;> rfl

end Sys2Proof.Machine
end

