-- ==== Sys2Proof/Laws/Moves.lean ====
section
/-! SUPPORT. Everything an instruction can do to the state, said once: a chain of bus writes, cycle charges, log entries
and register updates. A property that each of these keeps holds after every instruction. -/

namespace Sys2Proof.Machine

/-- One update of the CPU registers by an instruction. IME is not among them: only `RETI` writes it (R22). -/
inductive CpuMove : Cpu → Cpu → Prop where
  | setReg (c : Cpu) (r : Reg8) (v : Byte) : CpuMove c (c.setReg r v)
  | setPair (c : Cpu) (p : RegPair) (v : Word) : CpuMove c (c.setPair p v)
  | setStackPair (c : Cpu) (q : StackPair) (v : Word) : CpuMove c (c.setStackPair q v)
  | setFlags (c : Cpu) (fl : Flags) : CpuMove c (c.setFlags fl)
  | setSp (c : Cpu) (v : Word) : CpuMove c { c with sp := v }
  | setPc (c : Cpu) (v : Word) : CpuMove c { c with pc := v }
  | halt (c : Cpu) : CpuMove c { c with halted := true }
  | stop (c : Cpu) : CpuMove c { c with stopped := true }
  | ei (c : Cpu) : CpuMove c { c with eiPending := 2 }
  | di (c : Cpu) : CpuMove c { c with diPending := 2 }

/-- A chain of updates, from `s` on. -/
inductive Moves (s : State) : State → Prop where
  | refl : Moves s s
  | write {t m : State} (a : Word) (v : Byte) (h : Moves s t) (hw : busWrite a v t = .ok m) : Moves s m
  | charge {t : State} (n : Nat) (h : Moves s t) : Moves s (t.charge n)
  | log {t : State} (e : Byte × Word) (h : Moves s t) : Moves s { t with undefLog := t.undefLog ++ [e] }
  | cpu {t : State} {d : Cpu} (h : Moves s t) (hc : CpuMove t.cpu d) : Moves s { t with cpu := d }

theorem Moves.onCpu {s t : State} {g : Cpu → Cpu} (h : Moves s t) (hc : ∀ c, CpuMove c (g c)) : Moves s (t.onCpu g) :=
  h.cpu (hc t.cpu)

theorem Moves.setA {s t : State} (v : Byte) (h : Moves s t) : Moves s (t.onCpu fun c => { c with a := v }) :=
  h.cpu (.setReg t.cpu .a v)

theorem Moves.trans {s t u : State} (h : Moves s t) (k : Moves t u) : Moves s u := by
  induction k with
  | refl => exact h
  | write a v _ hw ih => exact ih.write a v hw
  | charge n _ ih => exact ih.charge n
  | log e _ ih => exact ih.log e
  | cpu _ hc ih => exact ih.cpu hc

theorem Moves.loc {s t m : State} {x : Loc} {v : Byte} (h : Moves s t) (hm : locWritten x v t m) : Moves s m := by
  cases x with
  | reg r => rw [show m = _ from hm]; exact h.cpu (.setReg t.cpu r v)
  | atHl => exact h.write _ _ hm

/-- Whatever a meaning answers next is a chain of updates. -/
abbrev DoesMoves (s : State) (o : Out) : Prop := Post o (Moves s)

/-! ## The shared operations -/

theorem finish_moves {s t : State} (n : Nat) (h : Moves s t) : DoesMoves s (finish n t) := post_finish (h.charge n)

theorem write_finish_moves (a : Word) (v : Byte) (n : Nat) (s : State) : DoesMoves s (withWrite a v s (finish n)) :=
  post_withWrite fun _ hm => finish_moves n (Moves.refl.write a v hm)

theorem push16_moves (v : Word) (s : State) {k : State → Out} (h : ∀ t, Moves s t → DoesMoves s (k t)) :
    DoesMoves s (push16 v s k) :=
  post_push16 fun _ _ hm hn => h _ (((Moves.refl.write _ _ hm).write _ _ hn).onCpu fun c => .setSp c _)

theorem pop16_moves (s : State) {k : Word → State → Out} (h : ∀ v t, Moves s t → DoesMoves s (k v t)) :
    DoesMoves s (pop16 s k) :=
  post_pop16 fun _ _ _ _ => h _ _ (Moves.refl.onCpu fun c => .setSp c _)

theorem modifyLoc_moves (x : Loc) (g : Byte → Byte) (s : State) {k : Byte → State → Out}
    (h : ∀ v t, Moves s t → DoesMoves s (k v t)) : DoesMoves s (modifyLoc x g s k) :=
  post_modifyLoc fun v _ _ hm => h v _ (Moves.refl.loc hm)

/-! ## The shared forms of the families -/

theorem ldRegReg_moves (dst src : Reg8) (s : State) : DoesMoves s (ldRegReg dst src s) :=
  finish_moves _ (Moves.refl.onCpu fun c => .setReg c _ _)

theorem ldRegImm_moves (dst : Reg8) (n : Byte) (s : State) : DoesMoves s (ldRegImm dst n s) :=
  finish_moves _ (Moves.refl.onCpu fun c => .setReg c _ _)

theorem ldRegHl_moves (dst : Reg8) (s : State) : DoesMoves s (ldRegHl dst s) :=
  post_withRead fun _ _ => finish_moves _ (Moves.refl.onCpu fun c => .setReg c _ _)

theorem ldHlReg_moves (r : Reg8) (s : State) : DoesMoves s (ldHlReg r s) := write_finish_moves _ _ _ _

theorem ldAHlStep_moves (d : Word) (s : State) : DoesMoves s (ldAHlStep d s) :=
  post_withRead fun v _ => finish_moves _ ((Moves.refl.onCpu (g := fun c => c.setPair .hl (c.hl + d)) fun c =>
    .setPair c _ _).setA v)

theorem stAHlStep_moves (d : Word) (s : State) : DoesMoves s (stAHlStep d s) :=
  post_withWrite fun _ hm => finish_moves _ ((Moves.refl.write _ _ hm).onCpu fun c => .setPair c _ _)

theorem ldAFrom_moves (a : Word) (n : Nat) (s : State) : DoesMoves s (ldAFrom a n s) :=
  post_withRead fun v _ => finish_moves _ (Moves.refl.setA v)

theorem stAAt_moves (a : Word) (n : Nat) (s : State) : DoesMoves s (stAAt a n s) := write_finish_moves _ _ _ _

theorem ldPairImm_moves (p : RegPair) (nn : Word) (s : State) : DoesMoves s (ldPairImm p nn s) :=
  finish_moves _ (Moves.refl.onCpu fun c => .setPair c _ _)

theorem ldHlSpOffset_moves (e : Byte) (s : State) : DoesMoves s (ldHlSpOffset e s) :=
  finish_moves _ ((Moves.refl.onCpu (g := fun c => c.setPair .hl (addSp16 c.sp e).val) fun c =>
    .setPair c _ _).cpu (.setFlags _ (addSp16 s.cpu.sp e).fl))

theorem pushPair_moves (q : StackPair) (s : State) : DoesMoves s (pushPair q s) :=
  push16_moves _ _ fun _ ht => finish_moves _ ht

theorem popPair_moves (q : StackPair) (s : State) : DoesMoves s (popPair q s) :=
  pop16_moves _ fun _ _ ht => finish_moves _ (ht.onCpu fun c => .setStackPair c _ _)

theorem aluAcc_moves (op : AluOp) (src : AluSrc) (n : Nat) (s : State) : DoesMoves s (aluAcc op src n s) :=
  post_aluOperand fun v _ => finish_moves _ ((Moves.refl.setA (aluOut op s.cpu.a v s.cpu.flags.c).val).cpu
    (.setFlags _ (aluOut op s.cpu.a v s.cpu.flags.c).fl))

theorem incLoc_moves (x : Loc) (n : Nat) (s : State) : DoesMoves s (incLoc x n s) :=
  modifyLoc_moves _ _ _ fun _ _ ht => finish_moves _ (ht.onCpu fun c => .setFlags c _)

theorem decLoc_moves (x : Loc) (n : Nat) (s : State) : DoesMoves s (decLoc x n s) :=
  modifyLoc_moves _ _ _ fun _ _ ht => finish_moves _ (ht.onCpu fun c => .setFlags c _)

theorem onAcc_moves (g : Byte → Flags → ByteOut) (s : State) : DoesMoves s (onAcc g s) :=
  finish_moves _ ((Moves.refl.setA (g s.cpu.a s.cpu.flags).val).cpu (.setFlags _ (g s.cpu.a s.cpu.flags).fl))

theorem addHlPair_moves (p : RegPair) (s : State) : DoesMoves s (addHlPair p s) :=
  finish_moves _ ((Moves.refl.cpu (.setPair s.cpu .hl (addHl16 s.cpu.hl (s.cpu.pair p) s.cpu.flags).val)).cpu
    (.setFlags _ (addHl16 s.cpu.hl (s.cpu.pair p) s.cpu.flags).fl))

theorem stepPair_moves (p : RegPair) (d : Word) (s : State) : DoesMoves s (stepPair p d s) :=
  finish_moves _ (Moves.refl.onCpu fun c => .setPair c _ _)

theorem addSpOffset_moves (e : Byte) (s : State) : DoesMoves s (addSpOffset e s) :=
  finish_moves _ ((Moves.refl.cpu (.setSp s.cpu (addSp16 s.cpu.sp e).val)).cpu
    (.setFlags _ (addSp16 s.cpu.sp e).fl))

theorem rotateAcc_moves (op : ShiftOp) (s : State) : DoesMoves s (rotateAcc op s) :=
  finish_moves _ ((Moves.refl.setA (rotateA8 op s.cpu.a s.cpu.flags.c).val).cpu
    (.setFlags _ (rotateA8 op s.cpu.a s.cpu.flags.c).fl))

theorem shiftLoc_moves (op : ShiftOp) (x : Loc) (n : Nat) (s : State) : DoesMoves s (shiftLoc op x n s) :=
  modifyLoc_moves _ _ _ fun _ _ ht => finish_moves _ (ht.onCpu fun c => .setFlags c _)

theorem bitLoc_moves (b : Fin 8) (x : Loc) (n : Nat) (s : State) : DoesMoves s (bitLoc b x n s) :=
  post_readLoc fun _ _ => finish_moves _ (Moves.refl.onCpu fun c => .setFlags c _)

theorem resLoc_moves (b : Fin 8) (x : Loc) (n : Nat) (s : State) : DoesMoves s (resLoc b x n s) :=
  modifyLoc_moves _ _ _ fun _ _ ht => finish_moves _ ht

theorem setLoc_moves (b : Fin 8) (x : Loc) (n : Nat) (s : State) : DoesMoves s (setLoc b x n s) :=
  modifyLoc_moves _ _ _ fun _ _ ht => finish_moves _ ht

theorem jump_moves (target : Word) (n : Nat) {s t : State} (h : Moves s t) : DoesMoves s (finish n (t.jump target)) :=
  finish_moves _ (h.cpu (.setPc t.cpu target))

theorem jpIf_moves (cc : Cond) (nn : Word) (s : State) : DoesMoves s (jpIf cc nn s) :=
  post_ite (fun _ => jump_moves _ _ .refl) fun _ => finish_moves _ .refl

theorem jrIf_moves (cc : Cond) (e : Byte) (s : State) : DoesMoves s (jrIf cc e s) :=
  post_ite (fun _ => jump_moves _ _ .refl) fun _ => finish_moves _ .refl

theorem callTo_moves (target : Word) (n : Nat) (s : State) : DoesMoves s (callTo target n s) :=
  push16_moves _ _ fun _ ht => jump_moves _ _ ht

theorem callIf_moves (cc : Cond) (nn : Word) (s : State) : DoesMoves s (callIf cc nn s) :=
  post_ite (fun _ => callTo_moves _ _ _) fun _ => finish_moves _ .refl

theorem retFrom_moves (n : Nat) (s : State) : DoesMoves s (retFrom n s) :=
  pop16_moves _ fun _ _ ht => jump_moves _ _ ht

theorem retIf_moves (cc : Cond) (s : State) : DoesMoves s (retIf cc s) :=
  post_ite (fun _ => retFrom_moves _ _) fun _ => finish_moves _ .refl

theorem cbByFields_moves (cb : Byte) (s : State) : DoesMoves s (cbByFields cb s) :=
  post_ite (fun _ => shiftLoc_moves _ _ _ _) fun _ => post_ite (fun _ => bitLoc_moves _ _ _ _) fun _ =>
    post_ite (fun _ => resLoc_moves _ _ _ _) fun _ => setLoc_moves _ _ _ _

/-! ## Every instruction -/

/-- Everything an instruction other than `RETI` can have done when it answers a next state. -/
theorem exec_moves {i : Instr} (hi : i ≠ .reti) (s : State) : DoesMoves s (exec i s) := by
  cases i with
  | ldBcNn nn => exact ldPairImm_moves .bc nn s
  | ldBN n => exact ldRegImm_moves .b n s
  | ldIndNnSp nn => exact post_withWrite16 fun _ _ hm hn => finish_moves _ ((Moves.refl.write _ _ hm).write _ _ hn)
  | ldCN n => exact ldRegImm_moves .c n s
  | ldDeNn nn => exact ldPairImm_moves .de nn s
  | ldDN n => exact ldRegImm_moves .d n s
  | jrE e => exact jump_moves _ _ .refl
  | ldEN n => exact ldRegImm_moves .e n s
  | jrNZE e => exact jrIf_moves .nz e s
  | ldHlNn nn => exact ldPairImm_moves .hl nn s
  | ldHN n => exact ldRegImm_moves .h n s
  | jrZE e => exact jrIf_moves .z e s
  | ldLN n => exact ldRegImm_moves .l n s
  | jrNCE e => exact jrIf_moves .nc e s
  | ldSpNn nn => exact ldPairImm_moves .sp nn s
  | ldIndHlN n => exact write_finish_moves _ _ _ s
  | jrCE e => exact jrIf_moves .c e s
  | ldAN n => exact ldRegImm_moves .a n s
  | jpNZNn nn => exact jpIf_moves .nz nn s
  | jpNn nn => exact jump_moves _ _ .refl
  | callNZNn nn => exact callIf_moves .nz nn s
  | addAN n => exact aluAcc_moves .add (.imm n) 8 s
  | jpZNn nn => exact jpIf_moves .z nn s
  | prefixCb cb => exact cbByFields_moves cb s
  | callZNn nn => exact callIf_moves .z nn s
  | callNn nn => exact callTo_moves nn 24 s
  | adcAN n => exact aluAcc_moves .adc (.imm n) 8 s
  | jpNCNn nn => exact jpIf_moves .nc nn s
  | undefined op => exact finish_moves _ (Moves.refl.log _)
  | callNCNn nn => exact callIf_moves .nc nn s
  | subAN n => exact aluAcc_moves .sub (.imm n) 8 s
  | jpCNn nn => exact jpIf_moves .c nn s
  | callCNn nn => exact callIf_moves .c nn s
  | sbcAN n => exact aluAcc_moves .sbc (.imm n) 8 s
  | ldhIndA8A a8 => exact stAAt_moves (ioPage a8) 12 s
  | andAN n => exact aluAcc_moves .and (.imm n) 8 s
  | addSpE e => exact addSpOffset_moves e s
  | ldIndNnA nn => exact stAAt_moves nn 16 s
  | xorAN n => exact aluAcc_moves .xor (.imm n) 8 s
  | ldhAIndA8 a8 => exact ldAFrom_moves (ioPage a8) 12 s
  | orAN n => exact aluAcc_moves .or (.imm n) 8 s
  | ldHlSpE e => exact ldHlSpOffset_moves e s
  | ldAIndNn nn => exact ldAFrom_moves nn 16 s
  | cpAN n => exact aluAcc_moves .cp (.imm n) 8 s
  | nop => exact finish_moves _ .refl
  | ldIndBcA => exact stAAt_moves s.cpu.bc 8 s
  | incBc => exact stepPair_moves .bc 1 s
  | incB => exact incLoc_moves (.reg .b) 4 s
  | decB => exact decLoc_moves (.reg .b) 4 s
  | rlca => exact rotateAcc_moves .rlc s
  | addHlBc => exact addHlPair_moves .bc s
  | ldAIndBc => exact ldAFrom_moves s.cpu.bc 8 s
  | decBc => exact stepPair_moves .bc (-1) s
  | incC => exact incLoc_moves (.reg .c) 4 s
  | decC => exact decLoc_moves (.reg .c) 4 s
  | rrca => exact rotateAcc_moves .rrc s
  | stop => exact finish_moves _ ((Moves.refl.cpu (.setPc s.cpu (s.cpu.pc + 1))).cpu (.stop _))
  | ldIndDeA => exact stAAt_moves s.cpu.de 8 s
  | incDe => exact stepPair_moves .de 1 s
  | incD => exact incLoc_moves (.reg .d) 4 s
  | decD => exact decLoc_moves (.reg .d) 4 s
  | rla => exact rotateAcc_moves .rl s
  | addHlDe => exact addHlPair_moves .de s
  | ldAIndDe => exact ldAFrom_moves s.cpu.de 8 s
  | decDe => exact stepPair_moves .de (-1) s
  | incE => exact incLoc_moves (.reg .e) 4 s
  | decE => exact decLoc_moves (.reg .e) 4 s
  | rra => exact rotateAcc_moves .rr s
  | ldIndHlIncA => exact stAHlStep_moves 1 s
  | incHl => exact stepPair_moves .hl 1 s
  | incH => exact incLoc_moves (.reg .h) 4 s
  | decH => exact decLoc_moves (.reg .h) 4 s
  | daa => exact onAcc_moves daa8 s
  | addHlHl => exact addHlPair_moves .hl s
  | ldAIndHlInc => exact ldAHlStep_moves 1 s
  | decHl => exact stepPair_moves .hl (-1) s
  | incL => exact incLoc_moves (.reg .l) 4 s
  | decL => exact decLoc_moves (.reg .l) 4 s
  | cpl => exact onAcc_moves cpl8 s
  | ldIndHlDecA => exact stAHlStep_moves (-1) s
  | incSp => exact stepPair_moves .sp 1 s
  | incIndHl => exact incLoc_moves .atHl 12 s
  | decIndHl => exact decLoc_moves .atHl 12 s
  | scf => exact finish_moves _ (Moves.refl.onCpu fun c => .setFlags c _)
  | addHlSp => exact addHlPair_moves .sp s
  | ldAIndHlDec => exact ldAHlStep_moves (-1) s
  | decSp => exact stepPair_moves .sp (-1) s
  | incA => exact incLoc_moves (.reg .a) 4 s
  | decA => exact decLoc_moves (.reg .a) 4 s
  | ccf => exact finish_moves _ (Moves.refl.onCpu fun c => .setFlags c _)
  | ldBB => exact ldRegReg_moves .b .b s
  | ldBC => exact ldRegReg_moves .b .c s
  | ldBD => exact ldRegReg_moves .b .d s
  | ldBE => exact ldRegReg_moves .b .e s
  | ldBH => exact ldRegReg_moves .b .h s
  | ldBL => exact ldRegReg_moves .b .l s
  | ldBIndHl => exact ldRegHl_moves .b s
  | ldBA => exact ldRegReg_moves .b .a s
  | ldCB => exact ldRegReg_moves .c .b s
  | ldCC => exact ldRegReg_moves .c .c s
  | ldCD => exact ldRegReg_moves .c .d s
  | ldCE => exact ldRegReg_moves .c .e s
  | ldCH => exact ldRegReg_moves .c .h s
  | ldCL => exact ldRegReg_moves .c .l s
  | ldCIndHl => exact ldRegHl_moves .c s
  | ldCA => exact ldRegReg_moves .c .a s
  | ldDB => exact ldRegReg_moves .d .b s
  | ldDC => exact ldRegReg_moves .d .c s
  | ldDD => exact ldRegReg_moves .d .d s
  | ldDE => exact ldRegReg_moves .d .e s
  | ldDH => exact ldRegReg_moves .d .h s
  | ldDL => exact ldRegReg_moves .d .l s
  | ldDIndHl => exact ldRegHl_moves .d s
  | ldDA => exact ldRegReg_moves .d .a s
  | ldEB => exact ldRegReg_moves .e .b s
  | ldEC => exact ldRegReg_moves .e .c s
  | ldED => exact ldRegReg_moves .e .d s
  | ldEE => exact ldRegReg_moves .e .e s
  | ldEH => exact ldRegReg_moves .e .h s
  | ldEL => exact ldRegReg_moves .e .l s
  | ldEIndHl => exact ldRegHl_moves .e s
  | ldEA => exact ldRegReg_moves .e .a s
  | ldHB => exact ldRegReg_moves .h .b s
  | ldHC => exact ldRegReg_moves .h .c s
  | ldHD => exact ldRegReg_moves .h .d s
  | ldHE => exact ldRegReg_moves .h .e s
  | ldHH => exact ldRegReg_moves .h .h s
  | ldHL => exact ldRegReg_moves .h .l s
  | ldHIndHl => exact ldRegHl_moves .h s
  | ldHA => exact ldRegReg_moves .h .a s
  | ldLB => exact ldRegReg_moves .l .b s
  | ldLC => exact ldRegReg_moves .l .c s
  | ldLD => exact ldRegReg_moves .l .d s
  | ldLE => exact ldRegReg_moves .l .e s
  | ldLH => exact ldRegReg_moves .l .h s
  | ldLL => exact ldRegReg_moves .l .l s
  | ldLIndHl => exact ldRegHl_moves .l s
  | ldLA => exact ldRegReg_moves .l .a s
  | ldIndHlB => exact ldHlReg_moves .b s
  | ldIndHlC => exact ldHlReg_moves .c s
  | ldIndHlD => exact ldHlReg_moves .d s
  | ldIndHlE => exact ldHlReg_moves .e s
  | ldIndHlH => exact ldHlReg_moves .h s
  | ldIndHlL => exact ldHlReg_moves .l s
  | halt => exact finish_moves _ (Moves.refl.onCpu fun c => .halt c)
  | ldIndHlA => exact ldHlReg_moves .a s
  | ldAB => exact ldRegReg_moves .a .b s
  | ldAC => exact ldRegReg_moves .a .c s
  | ldAD => exact ldRegReg_moves .a .d s
  | ldAE => exact ldRegReg_moves .a .e s
  | ldAH => exact ldRegReg_moves .a .h s
  | ldAL => exact ldRegReg_moves .a .l s
  | ldAIndHl => exact ldRegHl_moves .a s
  | ldAA => exact ldRegReg_moves .a .a s
  | addAB => exact aluAcc_moves .add (.loc (.reg .b)) 4 s
  | addAC => exact aluAcc_moves .add (.loc (.reg .c)) 4 s
  | addAD => exact aluAcc_moves .add (.loc (.reg .d)) 4 s
  | addAE => exact aluAcc_moves .add (.loc (.reg .e)) 4 s
  | addAH => exact aluAcc_moves .add (.loc (.reg .h)) 4 s
  | addAL => exact aluAcc_moves .add (.loc (.reg .l)) 4 s
  | addAIndHl => exact aluAcc_moves .add (.loc .atHl) 8 s
  | addAA => exact aluAcc_moves .add (.loc (.reg .a)) 4 s
  | adcAB => exact aluAcc_moves .adc (.loc (.reg .b)) 4 s
  | adcAC => exact aluAcc_moves .adc (.loc (.reg .c)) 4 s
  | adcAD => exact aluAcc_moves .adc (.loc (.reg .d)) 4 s
  | adcAE => exact aluAcc_moves .adc (.loc (.reg .e)) 4 s
  | adcAH => exact aluAcc_moves .adc (.loc (.reg .h)) 4 s
  | adcAL => exact aluAcc_moves .adc (.loc (.reg .l)) 4 s
  | adcAIndHl => exact aluAcc_moves .adc (.loc .atHl) 8 s
  | adcAA => exact aluAcc_moves .adc (.loc (.reg .a)) 4 s
  | subAB => exact aluAcc_moves .sub (.loc (.reg .b)) 4 s
  | subAC => exact aluAcc_moves .sub (.loc (.reg .c)) 4 s
  | subAD => exact aluAcc_moves .sub (.loc (.reg .d)) 4 s
  | subAE => exact aluAcc_moves .sub (.loc (.reg .e)) 4 s
  | subAH => exact aluAcc_moves .sub (.loc (.reg .h)) 4 s
  | subAL => exact aluAcc_moves .sub (.loc (.reg .l)) 4 s
  | subAIndHl => exact aluAcc_moves .sub (.loc .atHl) 8 s
  | subAA => exact aluAcc_moves .sub (.loc (.reg .a)) 4 s
  | sbcAB => exact aluAcc_moves .sbc (.loc (.reg .b)) 4 s
  | sbcAC => exact aluAcc_moves .sbc (.loc (.reg .c)) 4 s
  | sbcAD => exact aluAcc_moves .sbc (.loc (.reg .d)) 4 s
  | sbcAE => exact aluAcc_moves .sbc (.loc (.reg .e)) 4 s
  | sbcAH => exact aluAcc_moves .sbc (.loc (.reg .h)) 4 s
  | sbcAL => exact aluAcc_moves .sbc (.loc (.reg .l)) 4 s
  | sbcAIndHl => exact aluAcc_moves .sbc (.loc .atHl) 8 s
  | sbcAA => exact aluAcc_moves .sbc (.loc (.reg .a)) 4 s
  | andAB => exact aluAcc_moves .and (.loc (.reg .b)) 4 s
  | andAC => exact aluAcc_moves .and (.loc (.reg .c)) 4 s
  | andAD => exact aluAcc_moves .and (.loc (.reg .d)) 4 s
  | andAE => exact aluAcc_moves .and (.loc (.reg .e)) 4 s
  | andAH => exact aluAcc_moves .and (.loc (.reg .h)) 4 s
  | andAL => exact aluAcc_moves .and (.loc (.reg .l)) 4 s
  | andAIndHl => exact aluAcc_moves .and (.loc .atHl) 8 s
  | andAA => exact aluAcc_moves .and (.loc (.reg .a)) 4 s
  | xorAB => exact aluAcc_moves .xor (.loc (.reg .b)) 4 s
  | xorAC => exact aluAcc_moves .xor (.loc (.reg .c)) 4 s
  | xorAD => exact aluAcc_moves .xor (.loc (.reg .d)) 4 s
  | xorAE => exact aluAcc_moves .xor (.loc (.reg .e)) 4 s
  | xorAH => exact aluAcc_moves .xor (.loc (.reg .h)) 4 s
  | xorAL => exact aluAcc_moves .xor (.loc (.reg .l)) 4 s
  | xorAIndHl => exact aluAcc_moves .xor (.loc .atHl) 8 s
  | xorAA => exact aluAcc_moves .xor (.loc (.reg .a)) 4 s
  | orAB => exact aluAcc_moves .or (.loc (.reg .b)) 4 s
  | orAC => exact aluAcc_moves .or (.loc (.reg .c)) 4 s
  | orAD => exact aluAcc_moves .or (.loc (.reg .d)) 4 s
  | orAE => exact aluAcc_moves .or (.loc (.reg .e)) 4 s
  | orAH => exact aluAcc_moves .or (.loc (.reg .h)) 4 s
  | orAL => exact aluAcc_moves .or (.loc (.reg .l)) 4 s
  | orAIndHl => exact aluAcc_moves .or (.loc .atHl) 8 s
  | orAA => exact aluAcc_moves .or (.loc (.reg .a)) 4 s
  | cpAB => exact aluAcc_moves .cp (.loc (.reg .b)) 4 s
  | cpAC => exact aluAcc_moves .cp (.loc (.reg .c)) 4 s
  | cpAD => exact aluAcc_moves .cp (.loc (.reg .d)) 4 s
  | cpAE => exact aluAcc_moves .cp (.loc (.reg .e)) 4 s
  | cpAH => exact aluAcc_moves .cp (.loc (.reg .h)) 4 s
  | cpAL => exact aluAcc_moves .cp (.loc (.reg .l)) 4 s
  | cpAIndHl => exact aluAcc_moves .cp (.loc .atHl) 8 s
  | cpAA => exact aluAcc_moves .cp (.loc (.reg .a)) 4 s
  | retNZ => exact retIf_moves .nz s
  | popBc => exact popPair_moves .bc s
  | pushBc => exact pushPair_moves .bc s
  | rst00 => exact callTo_moves 0x0000 16 s
  | retZ => exact retIf_moves .z s
  | ret => exact retFrom_moves 16 s
  | rst08 => exact callTo_moves 0x0008 16 s
  | retNC => exact retIf_moves .nc s
  | popDe => exact popPair_moves .de s
  | pushDe => exact pushPair_moves .de s
  | rst10 => exact callTo_moves 0x0010 16 s
  | retC => exact retIf_moves .c s
  | reti => exact absurd rfl hi
  | rst18 => exact callTo_moves 0x0018 16 s
  | popHl => exact popPair_moves .hl s
  | ldIndCA => exact stAAt_moves (ioPage s.cpu.c) 8 s
  | pushHl => exact pushPair_moves .hl s
  | rst20 => exact callTo_moves 0x0020 16 s
  | jpHl => exact jump_moves _ _ .refl
  | rst28 => exact callTo_moves 0x0028 16 s
  | popAf => exact popPair_moves .af s
  | ldAIndC => exact ldAFrom_moves (ioPage s.cpu.c) 8 s
  | di => exact finish_moves _ (Moves.refl.onCpu fun c => .di c)
  | pushAf => exact pushPair_moves .af s
  | rst30 => exact callTo_moves 0x0030 16 s
  | ldSpHl => exact finish_moves _ (Moves.refl.onCpu fun c => .setSp c _)
  | ei => exact finish_moves _ (Moves.refl.onCpu fun c => .ei c)
  | rst38 => exact callTo_moves 0x0038 16 s
  | rlcB => exact shiftLoc_moves .rlc (.reg .b) 8 s
  | rlcC => exact shiftLoc_moves .rlc (.reg .c) 8 s
  | rlcD => exact shiftLoc_moves .rlc (.reg .d) 8 s
  | rlcE => exact shiftLoc_moves .rlc (.reg .e) 8 s
  | rlcH => exact shiftLoc_moves .rlc (.reg .h) 8 s
  | rlcL => exact shiftLoc_moves .rlc (.reg .l) 8 s
  | rlcIndHl => exact shiftLoc_moves .rlc .atHl 16 s
  | rlcA => exact shiftLoc_moves .rlc (.reg .a) 8 s
  | rrcB => exact shiftLoc_moves .rrc (.reg .b) 8 s
  | rrcC => exact shiftLoc_moves .rrc (.reg .c) 8 s
  | rrcD => exact shiftLoc_moves .rrc (.reg .d) 8 s
  | rrcE => exact shiftLoc_moves .rrc (.reg .e) 8 s
  | rrcH => exact shiftLoc_moves .rrc (.reg .h) 8 s
  | rrcL => exact shiftLoc_moves .rrc (.reg .l) 8 s
  | rrcIndHl => exact shiftLoc_moves .rrc .atHl 16 s
  | rrcA => exact shiftLoc_moves .rrc (.reg .a) 8 s
  | rlB => exact shiftLoc_moves .rl (.reg .b) 8 s
  | rlC => exact shiftLoc_moves .rl (.reg .c) 8 s
  | rlD => exact shiftLoc_moves .rl (.reg .d) 8 s
  | rlE => exact shiftLoc_moves .rl (.reg .e) 8 s
  | rlH => exact shiftLoc_moves .rl (.reg .h) 8 s
  | rlL => exact shiftLoc_moves .rl (.reg .l) 8 s
  | rlIndHl => exact shiftLoc_moves .rl .atHl 16 s
  | rlA => exact shiftLoc_moves .rl (.reg .a) 8 s
  | rrB => exact shiftLoc_moves .rr (.reg .b) 8 s
  | rrC => exact shiftLoc_moves .rr (.reg .c) 8 s
  | rrD => exact shiftLoc_moves .rr (.reg .d) 8 s
  | rrE => exact shiftLoc_moves .rr (.reg .e) 8 s
  | rrH => exact shiftLoc_moves .rr (.reg .h) 8 s
  | rrL => exact shiftLoc_moves .rr (.reg .l) 8 s
  | rrIndHl => exact shiftLoc_moves .rr .atHl 16 s
  | rrA => exact shiftLoc_moves .rr (.reg .a) 8 s
  | slaB => exact shiftLoc_moves .sla (.reg .b) 8 s
  | slaC => exact shiftLoc_moves .sla (.reg .c) 8 s
  | slaD => exact shiftLoc_moves .sla (.reg .d) 8 s
  | slaE => exact shiftLoc_moves .sla (.reg .e) 8 s
  | slaH => exact shiftLoc_moves .sla (.reg .h) 8 s
  | slaL => exact shiftLoc_moves .sla (.reg .l) 8 s
  | slaIndHl => exact shiftLoc_moves .sla .atHl 16 s
  | slaA => exact shiftLoc_moves .sla (.reg .a) 8 s
  | sraB => exact shiftLoc_moves .sra (.reg .b) 8 s
  | sraC => exact shiftLoc_moves .sra (.reg .c) 8 s
  | sraD => exact shiftLoc_moves .sra (.reg .d) 8 s
  | sraE => exact shiftLoc_moves .sra (.reg .e) 8 s
  | sraH => exact shiftLoc_moves .sra (.reg .h) 8 s
  | sraL => exact shiftLoc_moves .sra (.reg .l) 8 s
  | sraIndHl => exact shiftLoc_moves .sra .atHl 16 s
  | sraA => exact shiftLoc_moves .sra (.reg .a) 8 s
  | swapB => exact shiftLoc_moves .swap (.reg .b) 8 s
  | swapC => exact shiftLoc_moves .swap (.reg .c) 8 s
  | swapD => exact shiftLoc_moves .swap (.reg .d) 8 s
  | swapE => exact shiftLoc_moves .swap (.reg .e) 8 s
  | swapH => exact shiftLoc_moves .swap (.reg .h) 8 s
  | swapL => exact shiftLoc_moves .swap (.reg .l) 8 s
  | swapIndHl => exact shiftLoc_moves .swap .atHl 16 s
  | swapA => exact shiftLoc_moves .swap (.reg .a) 8 s
  | srlB => exact shiftLoc_moves .srl (.reg .b) 8 s
  | srlC => exact shiftLoc_moves .srl (.reg .c) 8 s
  | srlD => exact shiftLoc_moves .srl (.reg .d) 8 s
  | srlE => exact shiftLoc_moves .srl (.reg .e) 8 s
  | srlH => exact shiftLoc_moves .srl (.reg .h) 8 s
  | srlL => exact shiftLoc_moves .srl (.reg .l) 8 s
  | srlIndHl => exact shiftLoc_moves .srl .atHl 16 s
  | srlA => exact shiftLoc_moves .srl (.reg .a) 8 s
  | bit0B => exact bitLoc_moves 0 (.reg .b) 8 s
  | bit0C => exact bitLoc_moves 0 (.reg .c) 8 s
  | bit0D => exact bitLoc_moves 0 (.reg .d) 8 s
  | bit0E => exact bitLoc_moves 0 (.reg .e) 8 s
  | bit0H => exact bitLoc_moves 0 (.reg .h) 8 s
  | bit0L => exact bitLoc_moves 0 (.reg .l) 8 s
  | bit0IndHl => exact bitLoc_moves 0 .atHl 12 s
  | bit0A => exact bitLoc_moves 0 (.reg .a) 8 s
  | bit1B => exact bitLoc_moves 1 (.reg .b) 8 s
  | bit1C => exact bitLoc_moves 1 (.reg .c) 8 s
  | bit1D => exact bitLoc_moves 1 (.reg .d) 8 s
  | bit1E => exact bitLoc_moves 1 (.reg .e) 8 s
  | bit1H => exact bitLoc_moves 1 (.reg .h) 8 s
  | bit1L => exact bitLoc_moves 1 (.reg .l) 8 s
  | bit1IndHl => exact bitLoc_moves 1 .atHl 12 s
  | bit1A => exact bitLoc_moves 1 (.reg .a) 8 s
  | bit2B => exact bitLoc_moves 2 (.reg .b) 8 s
  | bit2C => exact bitLoc_moves 2 (.reg .c) 8 s
  | bit2D => exact bitLoc_moves 2 (.reg .d) 8 s
  | bit2E => exact bitLoc_moves 2 (.reg .e) 8 s
  | bit2H => exact bitLoc_moves 2 (.reg .h) 8 s
  | bit2L => exact bitLoc_moves 2 (.reg .l) 8 s
  | bit2IndHl => exact bitLoc_moves 2 .atHl 12 s
  | bit2A => exact bitLoc_moves 2 (.reg .a) 8 s
  | bit3B => exact bitLoc_moves 3 (.reg .b) 8 s
  | bit3C => exact bitLoc_moves 3 (.reg .c) 8 s
  | bit3D => exact bitLoc_moves 3 (.reg .d) 8 s
  | bit3E => exact bitLoc_moves 3 (.reg .e) 8 s
  | bit3H => exact bitLoc_moves 3 (.reg .h) 8 s
  | bit3L => exact bitLoc_moves 3 (.reg .l) 8 s
  | bit3IndHl => exact bitLoc_moves 3 .atHl 12 s
  | bit3A => exact bitLoc_moves 3 (.reg .a) 8 s
  | bit4B => exact bitLoc_moves 4 (.reg .b) 8 s
  | bit4C => exact bitLoc_moves 4 (.reg .c) 8 s
  | bit4D => exact bitLoc_moves 4 (.reg .d) 8 s
  | bit4E => exact bitLoc_moves 4 (.reg .e) 8 s
  | bit4H => exact bitLoc_moves 4 (.reg .h) 8 s
  | bit4L => exact bitLoc_moves 4 (.reg .l) 8 s
  | bit4IndHl => exact bitLoc_moves 4 .atHl 12 s
  | bit4A => exact bitLoc_moves 4 (.reg .a) 8 s
  | bit5B => exact bitLoc_moves 5 (.reg .b) 8 s
  | bit5C => exact bitLoc_moves 5 (.reg .c) 8 s
  | bit5D => exact bitLoc_moves 5 (.reg .d) 8 s
  | bit5E => exact bitLoc_moves 5 (.reg .e) 8 s
  | bit5H => exact bitLoc_moves 5 (.reg .h) 8 s
  | bit5L => exact bitLoc_moves 5 (.reg .l) 8 s
  | bit5IndHl => exact bitLoc_moves 5 .atHl 12 s
  | bit5A => exact bitLoc_moves 5 (.reg .a) 8 s
  | bit6B => exact bitLoc_moves 6 (.reg .b) 8 s
  | bit6C => exact bitLoc_moves 6 (.reg .c) 8 s
  | bit6D => exact bitLoc_moves 6 (.reg .d) 8 s
  | bit6E => exact bitLoc_moves 6 (.reg .e) 8 s
  | bit6H => exact bitLoc_moves 6 (.reg .h) 8 s
  | bit6L => exact bitLoc_moves 6 (.reg .l) 8 s
  | bit6IndHl => exact bitLoc_moves 6 .atHl 12 s
  | bit6A => exact bitLoc_moves 6 (.reg .a) 8 s
  | bit7B => exact bitLoc_moves 7 (.reg .b) 8 s
  | bit7C => exact bitLoc_moves 7 (.reg .c) 8 s
  | bit7D => exact bitLoc_moves 7 (.reg .d) 8 s
  | bit7E => exact bitLoc_moves 7 (.reg .e) 8 s
  | bit7H => exact bitLoc_moves 7 (.reg .h) 8 s
  | bit7L => exact bitLoc_moves 7 (.reg .l) 8 s
  | bit7IndHl => exact bitLoc_moves 7 .atHl 12 s
  | bit7A => exact bitLoc_moves 7 (.reg .a) 8 s
  | res0B => exact resLoc_moves 0 (.reg .b) 8 s
  | res0C => exact resLoc_moves 0 (.reg .c) 8 s
  | res0D => exact resLoc_moves 0 (.reg .d) 8 s
  | res0E => exact resLoc_moves 0 (.reg .e) 8 s
  | res0H => exact resLoc_moves 0 (.reg .h) 8 s
  | res0L => exact resLoc_moves 0 (.reg .l) 8 s
  | res0IndHl => exact resLoc_moves 0 .atHl 16 s
  | res0A => exact resLoc_moves 0 (.reg .a) 8 s
  | res1B => exact resLoc_moves 1 (.reg .b) 8 s
  | res1C => exact resLoc_moves 1 (.reg .c) 8 s
  | res1D => exact resLoc_moves 1 (.reg .d) 8 s
  | res1E => exact resLoc_moves 1 (.reg .e) 8 s
  | res1H => exact resLoc_moves 1 (.reg .h) 8 s
  | res1L => exact resLoc_moves 1 (.reg .l) 8 s
  | res1IndHl => exact resLoc_moves 1 .atHl 16 s
  | res1A => exact resLoc_moves 1 (.reg .a) 8 s
  | res2B => exact resLoc_moves 2 (.reg .b) 8 s
  | res2C => exact resLoc_moves 2 (.reg .c) 8 s
  | res2D => exact resLoc_moves 2 (.reg .d) 8 s
  | res2E => exact resLoc_moves 2 (.reg .e) 8 s
  | res2H => exact resLoc_moves 2 (.reg .h) 8 s
  | res2L => exact resLoc_moves 2 (.reg .l) 8 s
  | res2IndHl => exact resLoc_moves 2 .atHl 16 s
  | res2A => exact resLoc_moves 2 (.reg .a) 8 s
  | res3B => exact resLoc_moves 3 (.reg .b) 8 s
  | res3C => exact resLoc_moves 3 (.reg .c) 8 s
  | res3D => exact resLoc_moves 3 (.reg .d) 8 s
  | res3E => exact resLoc_moves 3 (.reg .e) 8 s
  | res3H => exact resLoc_moves 3 (.reg .h) 8 s
  | res3L => exact resLoc_moves 3 (.reg .l) 8 s
  | res3IndHl => exact resLoc_moves 3 .atHl 16 s
  | res3A => exact resLoc_moves 3 (.reg .a) 8 s
  | res4B => exact resLoc_moves 4 (.reg .b) 8 s
  | res4C => exact resLoc_moves 4 (.reg .c) 8 s
  | res4D => exact resLoc_moves 4 (.reg .d) 8 s
  | res4E => exact resLoc_moves 4 (.reg .e) 8 s
  | res4H => exact resLoc_moves 4 (.reg .h) 8 s
  | res4L => exact resLoc_moves 4 (.reg .l) 8 s
  | res4IndHl => exact resLoc_moves 4 .atHl 16 s
  | res4A => exact resLoc_moves 4 (.reg .a) 8 s
  | res5B => exact resLoc_moves 5 (.reg .b) 8 s
  | res5C => exact resLoc_moves 5 (.reg .c) 8 s
  | res5D => exact resLoc_moves 5 (.reg .d) 8 s
  | res5E => exact resLoc_moves 5 (.reg .e) 8 s
  | res5H => exact resLoc_moves 5 (.reg .h) 8 s
  | res5L => exact resLoc_moves 5 (.reg .l) 8 s
  | res5IndHl => exact resLoc_moves 5 .atHl 16 s
  | res5A => exact resLoc_moves 5 (.reg .a) 8 s
  | res6B => exact resLoc_moves 6 (.reg .b) 8 s
  | res6C => exact resLoc_moves 6 (.reg .c) 8 s
  | res6D => exact resLoc_moves 6 (.reg .d) 8 s
  | res6E => exact resLoc_moves 6 (.reg .e) 8 s
  | res6H => exact resLoc_moves 6 (.reg .h) 8 s
  | res6L => exact resLoc_moves 6 (.reg .l) 8 s
  | res6IndHl => exact resLoc_moves 6 .atHl 16 s
  | res6A => exact resLoc_moves 6 (.reg .a) 8 s
  | res7B => exact resLoc_moves 7 (.reg .b) 8 s
  | res7C => exact resLoc_moves 7 (.reg .c) 8 s
  | res7D => exact resLoc_moves 7 (.reg .d) 8 s
  | res7E => exact resLoc_moves 7 (.reg .e) 8 s
  | res7H => exact resLoc_moves 7 (.reg .h) 8 s
  | res7L => exact resLoc_moves 7 (.reg .l) 8 s
  | res7IndHl => exact resLoc_moves 7 .atHl 16 s
  | res7A => exact resLoc_moves 7 (.reg .a) 8 s
  | set0B => exact setLoc_moves 0 (.reg .b) 8 s
  | set0C => exact setLoc_moves 0 (.reg .c) 8 s
  | set0D => exact setLoc_moves 0 (.reg .d) 8 s
  | set0E => exact setLoc_moves 0 (.reg .e) 8 s
  | set0H => exact setLoc_moves 0 (.reg .h) 8 s
  | set0L => exact setLoc_moves 0 (.reg .l) 8 s
  | set0IndHl => exact setLoc_moves 0 .atHl 16 s
  | set0A => exact setLoc_moves 0 (.reg .a) 8 s
  | set1B => exact setLoc_moves 1 (.reg .b) 8 s
  | set1C => exact setLoc_moves 1 (.reg .c) 8 s
  | set1D => exact setLoc_moves 1 (.reg .d) 8 s
  | set1E => exact setLoc_moves 1 (.reg .e) 8 s
  | set1H => exact setLoc_moves 1 (.reg .h) 8 s
  | set1L => exact setLoc_moves 1 (.reg .l) 8 s
  | set1IndHl => exact setLoc_moves 1 .atHl 16 s
  | set1A => exact setLoc_moves 1 (.reg .a) 8 s
  | set2B => exact setLoc_moves 2 (.reg .b) 8 s
  | set2C => exact setLoc_moves 2 (.reg .c) 8 s
  | set2D => exact setLoc_moves 2 (.reg .d) 8 s
  | set2E => exact setLoc_moves 2 (.reg .e) 8 s
  | set2H => exact setLoc_moves 2 (.reg .h) 8 s
  | set2L => exact setLoc_moves 2 (.reg .l) 8 s
  | set2IndHl => exact setLoc_moves 2 .atHl 16 s
  | set2A => exact setLoc_moves 2 (.reg .a) 8 s
  | set3B => exact setLoc_moves 3 (.reg .b) 8 s
  | set3C => exact setLoc_moves 3 (.reg .c) 8 s
  | set3D => exact setLoc_moves 3 (.reg .d) 8 s
  | set3E => exact setLoc_moves 3 (.reg .e) 8 s
  | set3H => exact setLoc_moves 3 (.reg .h) 8 s
  | set3L => exact setLoc_moves 3 (.reg .l) 8 s
  | set3IndHl => exact setLoc_moves 3 .atHl 16 s
  | set3A => exact setLoc_moves 3 (.reg .a) 8 s
  | set4B => exact setLoc_moves 4 (.reg .b) 8 s
  | set4C => exact setLoc_moves 4 (.reg .c) 8 s
  | set4D => exact setLoc_moves 4 (.reg .d) 8 s
  | set4E => exact setLoc_moves 4 (.reg .e) 8 s
  | set4H => exact setLoc_moves 4 (.reg .h) 8 s
  | set4L => exact setLoc_moves 4 (.reg .l) 8 s
  | set4IndHl => exact setLoc_moves 4 .atHl 16 s
  | set4A => exact setLoc_moves 4 (.reg .a) 8 s
  | set5B => exact setLoc_moves 5 (.reg .b) 8 s
  | set5C => exact setLoc_moves 5 (.reg .c) 8 s
  | set5D => exact setLoc_moves 5 (.reg .d) 8 s
  | set5E => exact setLoc_moves 5 (.reg .e) 8 s
  | set5H => exact setLoc_moves 5 (.reg .h) 8 s
  | set5L => exact setLoc_moves 5 (.reg .l) 8 s
  | set5IndHl => exact setLoc_moves 5 .atHl 16 s
  | set5A => exact setLoc_moves 5 (.reg .a) 8 s
  | set6B => exact setLoc_moves 6 (.reg .b) 8 s
  | set6C => exact setLoc_moves 6 (.reg .c) 8 s
  | set6D => exact setLoc_moves 6 (.reg .d) 8 s
  | set6E => exact setLoc_moves 6 (.reg .e) 8 s
  | set6H => exact setLoc_moves 6 (.reg .h) 8 s
  | set6L => exact setLoc_moves 6 (.reg .l) 8 s
  | set6IndHl => exact setLoc_moves 6 .atHl 16 s
  | set6A => exact setLoc_moves 6 (.reg .a) 8 s
  | set7B => exact setLoc_moves 7 (.reg .b) 8 s
  | set7C => exact setLoc_moves 7 (.reg .c) 8 s
  | set7D => exact setLoc_moves 7 (.reg .d) 8 s
  | set7E => exact setLoc_moves 7 (.reg .e) 8 s
  | set7H => exact setLoc_moves 7 (.reg .h) 8 s
  | set7L => exact setLoc_moves 7 (.reg .l) 8 s
  | set7IndHl => exact setLoc_moves 7 .atHl 16 s
  | set7A => exact setLoc_moves 7 (.reg .a) 8 s

/-- Everything `RETI` can have done: its pops and its jump, with IME set (R194). -/
theorem reti_moves {s t : State} (h : exec .reti s = .next t) :
    ∃ u, Moves s u ∧ t = { u with cpu := { u.cpu with ime := true } } := by
  refine post_pop16 (k := fun pc s => finish 16 ((s.jump pc).onCpu fun c => { c with ime := true }))
    (P := fun t => ∃ u, Moves s u ∧ t = { u with cpu := { u.cpu with ime := true } }) ?_ t h
  intro lo hi _ _
  refine post_finish ⟨_, Moves.charge 16 (Moves.cpu (Moves.refl.onCpu fun c => .setSp c _) (.setPc _ (Word.ofBytes hi lo))),
    rfl⟩

end Sys2Proof.Machine
end

