-- ==== Sys2Proof/Laws/PerInstr.lean ====
section
/-! SUPPORT. The round trip of the decoder and the encoder, one lemma per instruction (LAWS.json names the family
`RoundTrip`). -/

/-- Decoding the bytes of a well-formed instruction, whatever follows them, gives it back. -/
def Sys2Proof.Laws.RoundTrip.Statement (i : Sys2Proof.Instr) : Prop :=
  i.wf = true → ∀ rest : List Sys2Proof.Byte, Sys2Proof.decode (Sys2Proof.encode i ++ rest) = .ok i

namespace Sys2Proof.Laws.RoundTrip

open Sys2Proof.Machine

/-- The three-byte forms: the two operand bytes make the operand word again. -/
theorem of_imm16 {i : Instr} {op : Byte} {nn : Word} {f : Word → Instr} (he : encode i = [op, nn.lo, nn.hi])
    (hp : Decode.primary op = .imm16 f) (hi : f nn = i) : Statement i := by
  intro _ rest
  simp [he, decode, hp, Word.ofBytes_hi_lo, hi]

theorem ldBcNn (nn : Word) : Statement (.ldBcNn nn) := of_imm16 rfl rfl rfl
theorem ldBN (n : Byte) : Statement (.ldBN n) := fun _ _ => rfl
theorem ldIndNnSp (nn : Word) : Statement (.ldIndNnSp nn) := of_imm16 rfl rfl rfl
theorem ldCN (n : Byte) : Statement (.ldCN n) := fun _ _ => rfl
theorem ldDeNn (nn : Word) : Statement (.ldDeNn nn) := of_imm16 rfl rfl rfl
theorem ldDN (n : Byte) : Statement (.ldDN n) := fun _ _ => rfl
theorem jrE (e : Byte) : Statement (.jrE e) := fun _ _ => rfl
theorem ldEN (n : Byte) : Statement (.ldEN n) := fun _ _ => rfl
theorem jrNZE (e : Byte) : Statement (.jrNZE e) := fun _ _ => rfl
theorem ldHlNn (nn : Word) : Statement (.ldHlNn nn) := of_imm16 rfl rfl rfl
theorem ldHN (n : Byte) : Statement (.ldHN n) := fun _ _ => rfl
theorem jrZE (e : Byte) : Statement (.jrZE e) := fun _ _ => rfl
theorem ldLN (n : Byte) : Statement (.ldLN n) := fun _ _ => rfl
theorem jrNCE (e : Byte) : Statement (.jrNCE e) := fun _ _ => rfl
theorem ldSpNn (nn : Word) : Statement (.ldSpNn nn) := of_imm16 rfl rfl rfl
theorem ldIndHlN (n : Byte) : Statement (.ldIndHlN n) := fun _ _ => rfl
theorem jrCE (e : Byte) : Statement (.jrCE e) := fun _ _ => rfl
theorem ldAN (n : Byte) : Statement (.ldAN n) := fun _ _ => rfl
theorem jpNZNn (nn : Word) : Statement (.jpNZNn nn) := of_imm16 rfl rfl rfl
theorem jpNn (nn : Word) : Statement (.jpNn nn) := of_imm16 rfl rfl rfl
theorem callNZNn (nn : Word) : Statement (.callNZNn nn) := of_imm16 rfl rfl rfl
theorem addAN (n : Byte) : Statement (.addAN n) := fun _ _ => rfl
theorem jpZNn (nn : Word) : Statement (.jpZNn nn) := of_imm16 rfl rfl rfl
theorem prefixCb (cb : Byte) : Statement (.prefixCb cb) := fun h => absurd h (by simp [Instr.wf])
theorem callZNn (nn : Word) : Statement (.callZNn nn) := of_imm16 rfl rfl rfl
theorem callNn (nn : Word) : Statement (.callNn nn) := of_imm16 rfl rfl rfl
theorem adcAN (n : Byte) : Statement (.adcAN n) := fun _ _ => rfl
theorem jpNCNn (nn : Word) : Statement (.jpNCNn nn) := of_imm16 rfl rfl rfl
theorem undefined (op : Byte) : Statement (.undefined op) := fun h rest => by
  have h : op ∈ undefinedOpcodes := by simpa [Instr.wf] using h
  simp only [undefinedOpcodes, List.mem_cons, List.not_mem_nil, or_false] at h
  rcases h with h | h | h | h | h | h | h | h | h | h | h <;> subst h <;> rfl
theorem callNCNn (nn : Word) : Statement (.callNCNn nn) := of_imm16 rfl rfl rfl
theorem subAN (n : Byte) : Statement (.subAN n) := fun _ _ => rfl
theorem jpCNn (nn : Word) : Statement (.jpCNn nn) := of_imm16 rfl rfl rfl
theorem callCNn (nn : Word) : Statement (.callCNn nn) := of_imm16 rfl rfl rfl
theorem sbcAN (n : Byte) : Statement (.sbcAN n) := fun _ _ => rfl
theorem ldhIndA8A (a8 : Byte) : Statement (.ldhIndA8A a8) := fun _ _ => rfl
theorem andAN (n : Byte) : Statement (.andAN n) := fun _ _ => rfl
theorem addSpE (e : Byte) : Statement (.addSpE e) := fun _ _ => rfl
theorem ldIndNnA (nn : Word) : Statement (.ldIndNnA nn) := of_imm16 rfl rfl rfl
theorem xorAN (n : Byte) : Statement (.xorAN n) := fun _ _ => rfl
theorem ldhAIndA8 (a8 : Byte) : Statement (.ldhAIndA8 a8) := fun _ _ => rfl
theorem orAN (n : Byte) : Statement (.orAN n) := fun _ _ => rfl
theorem ldHlSpE (e : Byte) : Statement (.ldHlSpE e) := fun _ _ => rfl
theorem ldAIndNn (nn : Word) : Statement (.ldAIndNn nn) := of_imm16 rfl rfl rfl
theorem cpAN (n : Byte) : Statement (.cpAN n) := fun _ _ => rfl
theorem nop : Statement .nop := fun _ _ => rfl
theorem ldIndBcA : Statement .ldIndBcA := fun _ _ => rfl
theorem incBc : Statement .incBc := fun _ _ => rfl
theorem incB : Statement .incB := fun _ _ => rfl
theorem decB : Statement .decB := fun _ _ => rfl
theorem rlca : Statement .rlca := fun _ _ => rfl
theorem addHlBc : Statement .addHlBc := fun _ _ => rfl
theorem ldAIndBc : Statement .ldAIndBc := fun _ _ => rfl
theorem decBc : Statement .decBc := fun _ _ => rfl
theorem incC : Statement .incC := fun _ _ => rfl
theorem decC : Statement .decC := fun _ _ => rfl
theorem rrca : Statement .rrca := fun _ _ => rfl
theorem stop : Statement .stop := fun _ _ => rfl
theorem ldIndDeA : Statement .ldIndDeA := fun _ _ => rfl
theorem incDe : Statement .incDe := fun _ _ => rfl
theorem incD : Statement .incD := fun _ _ => rfl
theorem decD : Statement .decD := fun _ _ => rfl
theorem rla : Statement .rla := fun _ _ => rfl
theorem addHlDe : Statement .addHlDe := fun _ _ => rfl
theorem ldAIndDe : Statement .ldAIndDe := fun _ _ => rfl
theorem decDe : Statement .decDe := fun _ _ => rfl
theorem incE : Statement .incE := fun _ _ => rfl
theorem decE : Statement .decE := fun _ _ => rfl
theorem rra : Statement .rra := fun _ _ => rfl
theorem ldIndHlIncA : Statement .ldIndHlIncA := fun _ _ => rfl
theorem incHl : Statement .incHl := fun _ _ => rfl
theorem incH : Statement .incH := fun _ _ => rfl
theorem decH : Statement .decH := fun _ _ => rfl
theorem daa : Statement .daa := fun _ _ => rfl
theorem addHlHl : Statement .addHlHl := fun _ _ => rfl
theorem ldAIndHlInc : Statement .ldAIndHlInc := fun _ _ => rfl
theorem decHl : Statement .decHl := fun _ _ => rfl
theorem incL : Statement .incL := fun _ _ => rfl
theorem decL : Statement .decL := fun _ _ => rfl
theorem cpl : Statement .cpl := fun _ _ => rfl
theorem ldIndHlDecA : Statement .ldIndHlDecA := fun _ _ => rfl
theorem incSp : Statement .incSp := fun _ _ => rfl
theorem incIndHl : Statement .incIndHl := fun _ _ => rfl
theorem decIndHl : Statement .decIndHl := fun _ _ => rfl
theorem scf : Statement .scf := fun _ _ => rfl
theorem addHlSp : Statement .addHlSp := fun _ _ => rfl
theorem ldAIndHlDec : Statement .ldAIndHlDec := fun _ _ => rfl
theorem decSp : Statement .decSp := fun _ _ => rfl
theorem incA : Statement .incA := fun _ _ => rfl
theorem decA : Statement .decA := fun _ _ => rfl
theorem ccf : Statement .ccf := fun _ _ => rfl
theorem ldBB : Statement .ldBB := fun _ _ => rfl
theorem ldBC : Statement .ldBC := fun _ _ => rfl
theorem ldBD : Statement .ldBD := fun _ _ => rfl
theorem ldBE : Statement .ldBE := fun _ _ => rfl
theorem ldBH : Statement .ldBH := fun _ _ => rfl
theorem ldBL : Statement .ldBL := fun _ _ => rfl
theorem ldBIndHl : Statement .ldBIndHl := fun _ _ => rfl
theorem ldBA : Statement .ldBA := fun _ _ => rfl
theorem ldCB : Statement .ldCB := fun _ _ => rfl
theorem ldCC : Statement .ldCC := fun _ _ => rfl
theorem ldCD : Statement .ldCD := fun _ _ => rfl
theorem ldCE : Statement .ldCE := fun _ _ => rfl
theorem ldCH : Statement .ldCH := fun _ _ => rfl
theorem ldCL : Statement .ldCL := fun _ _ => rfl
theorem ldCIndHl : Statement .ldCIndHl := fun _ _ => rfl
theorem ldCA : Statement .ldCA := fun _ _ => rfl
theorem ldDB : Statement .ldDB := fun _ _ => rfl
theorem ldDC : Statement .ldDC := fun _ _ => rfl
theorem ldDD : Statement .ldDD := fun _ _ => rfl
theorem ldDE : Statement .ldDE := fun _ _ => rfl
theorem ldDH : Statement .ldDH := fun _ _ => rfl
theorem ldDL : Statement .ldDL := fun _ _ => rfl
theorem ldDIndHl : Statement .ldDIndHl := fun _ _ => rfl
theorem ldDA : Statement .ldDA := fun _ _ => rfl
theorem ldEB : Statement .ldEB := fun _ _ => rfl
theorem ldEC : Statement .ldEC := fun _ _ => rfl
theorem ldED : Statement .ldED := fun _ _ => rfl
theorem ldEE : Statement .ldEE := fun _ _ => rfl
theorem ldEH : Statement .ldEH := fun _ _ => rfl
theorem ldEL : Statement .ldEL := fun _ _ => rfl
theorem ldEIndHl : Statement .ldEIndHl := fun _ _ => rfl
theorem ldEA : Statement .ldEA := fun _ _ => rfl
theorem ldHB : Statement .ldHB := fun _ _ => rfl
theorem ldHC : Statement .ldHC := fun _ _ => rfl
theorem ldHD : Statement .ldHD := fun _ _ => rfl
theorem ldHE : Statement .ldHE := fun _ _ => rfl
theorem ldHH : Statement .ldHH := fun _ _ => rfl
theorem ldHL : Statement .ldHL := fun _ _ => rfl
theorem ldHIndHl : Statement .ldHIndHl := fun _ _ => rfl
theorem ldHA : Statement .ldHA := fun _ _ => rfl
theorem ldLB : Statement .ldLB := fun _ _ => rfl
theorem ldLC : Statement .ldLC := fun _ _ => rfl
theorem ldLD : Statement .ldLD := fun _ _ => rfl
theorem ldLE : Statement .ldLE := fun _ _ => rfl
theorem ldLH : Statement .ldLH := fun _ _ => rfl
theorem ldLL : Statement .ldLL := fun _ _ => rfl
theorem ldLIndHl : Statement .ldLIndHl := fun _ _ => rfl
theorem ldLA : Statement .ldLA := fun _ _ => rfl
theorem ldIndHlB : Statement .ldIndHlB := fun _ _ => rfl
theorem ldIndHlC : Statement .ldIndHlC := fun _ _ => rfl
theorem ldIndHlD : Statement .ldIndHlD := fun _ _ => rfl
theorem ldIndHlE : Statement .ldIndHlE := fun _ _ => rfl
theorem ldIndHlH : Statement .ldIndHlH := fun _ _ => rfl
theorem ldIndHlL : Statement .ldIndHlL := fun _ _ => rfl
theorem halt : Statement .halt := fun _ _ => rfl
theorem ldIndHlA : Statement .ldIndHlA := fun _ _ => rfl
theorem ldAB : Statement .ldAB := fun _ _ => rfl
theorem ldAC : Statement .ldAC := fun _ _ => rfl
theorem ldAD : Statement .ldAD := fun _ _ => rfl
theorem ldAE : Statement .ldAE := fun _ _ => rfl
theorem ldAH : Statement .ldAH := fun _ _ => rfl
theorem ldAL : Statement .ldAL := fun _ _ => rfl
theorem ldAIndHl : Statement .ldAIndHl := fun _ _ => rfl
theorem ldAA : Statement .ldAA := fun _ _ => rfl
theorem addAB : Statement .addAB := fun _ _ => rfl
theorem addAC : Statement .addAC := fun _ _ => rfl
theorem addAD : Statement .addAD := fun _ _ => rfl
theorem addAE : Statement .addAE := fun _ _ => rfl
theorem addAH : Statement .addAH := fun _ _ => rfl
theorem addAL : Statement .addAL := fun _ _ => rfl
theorem addAIndHl : Statement .addAIndHl := fun _ _ => rfl
theorem addAA : Statement .addAA := fun _ _ => rfl
theorem adcAB : Statement .adcAB := fun _ _ => rfl
theorem adcAC : Statement .adcAC := fun _ _ => rfl
theorem adcAD : Statement .adcAD := fun _ _ => rfl
theorem adcAE : Statement .adcAE := fun _ _ => rfl
theorem adcAH : Statement .adcAH := fun _ _ => rfl
theorem adcAL : Statement .adcAL := fun _ _ => rfl
theorem adcAIndHl : Statement .adcAIndHl := fun _ _ => rfl
theorem adcAA : Statement .adcAA := fun _ _ => rfl
theorem subAB : Statement .subAB := fun _ _ => rfl
theorem subAC : Statement .subAC := fun _ _ => rfl
theorem subAD : Statement .subAD := fun _ _ => rfl
theorem subAE : Statement .subAE := fun _ _ => rfl
theorem subAH : Statement .subAH := fun _ _ => rfl
theorem subAL : Statement .subAL := fun _ _ => rfl
theorem subAIndHl : Statement .subAIndHl := fun _ _ => rfl
theorem subAA : Statement .subAA := fun _ _ => rfl
theorem sbcAB : Statement .sbcAB := fun _ _ => rfl
theorem sbcAC : Statement .sbcAC := fun _ _ => rfl
theorem sbcAD : Statement .sbcAD := fun _ _ => rfl
theorem sbcAE : Statement .sbcAE := fun _ _ => rfl
theorem sbcAH : Statement .sbcAH := fun _ _ => rfl
theorem sbcAL : Statement .sbcAL := fun _ _ => rfl
theorem sbcAIndHl : Statement .sbcAIndHl := fun _ _ => rfl
theorem sbcAA : Statement .sbcAA := fun _ _ => rfl
theorem andAB : Statement .andAB := fun _ _ => rfl
theorem andAC : Statement .andAC := fun _ _ => rfl
theorem andAD : Statement .andAD := fun _ _ => rfl
theorem andAE : Statement .andAE := fun _ _ => rfl
theorem andAH : Statement .andAH := fun _ _ => rfl
theorem andAL : Statement .andAL := fun _ _ => rfl
theorem andAIndHl : Statement .andAIndHl := fun _ _ => rfl
theorem andAA : Statement .andAA := fun _ _ => rfl
theorem xorAB : Statement .xorAB := fun _ _ => rfl
theorem xorAC : Statement .xorAC := fun _ _ => rfl
theorem xorAD : Statement .xorAD := fun _ _ => rfl
theorem xorAE : Statement .xorAE := fun _ _ => rfl
theorem xorAH : Statement .xorAH := fun _ _ => rfl
theorem xorAL : Statement .xorAL := fun _ _ => rfl
theorem xorAIndHl : Statement .xorAIndHl := fun _ _ => rfl
theorem xorAA : Statement .xorAA := fun _ _ => rfl
theorem orAB : Statement .orAB := fun _ _ => rfl
theorem orAC : Statement .orAC := fun _ _ => rfl
theorem orAD : Statement .orAD := fun _ _ => rfl
theorem orAE : Statement .orAE := fun _ _ => rfl
theorem orAH : Statement .orAH := fun _ _ => rfl
theorem orAL : Statement .orAL := fun _ _ => rfl
theorem orAIndHl : Statement .orAIndHl := fun _ _ => rfl
theorem orAA : Statement .orAA := fun _ _ => rfl
theorem cpAB : Statement .cpAB := fun _ _ => rfl
theorem cpAC : Statement .cpAC := fun _ _ => rfl
theorem cpAD : Statement .cpAD := fun _ _ => rfl
theorem cpAE : Statement .cpAE := fun _ _ => rfl
theorem cpAH : Statement .cpAH := fun _ _ => rfl
theorem cpAL : Statement .cpAL := fun _ _ => rfl
theorem cpAIndHl : Statement .cpAIndHl := fun _ _ => rfl
theorem cpAA : Statement .cpAA := fun _ _ => rfl
theorem retNZ : Statement .retNZ := fun _ _ => rfl
theorem popBc : Statement .popBc := fun _ _ => rfl
theorem pushBc : Statement .pushBc := fun _ _ => rfl
theorem rst00 : Statement .rst00 := fun _ _ => rfl
theorem retZ : Statement .retZ := fun _ _ => rfl
theorem ret : Statement .ret := fun _ _ => rfl
theorem rst08 : Statement .rst08 := fun _ _ => rfl
theorem retNC : Statement .retNC := fun _ _ => rfl
theorem popDe : Statement .popDe := fun _ _ => rfl
theorem pushDe : Statement .pushDe := fun _ _ => rfl
theorem rst10 : Statement .rst10 := fun _ _ => rfl
theorem retC : Statement .retC := fun _ _ => rfl
theorem reti : Statement .reti := fun _ _ => rfl
theorem rst18 : Statement .rst18 := fun _ _ => rfl
theorem popHl : Statement .popHl := fun _ _ => rfl
theorem ldIndCA : Statement .ldIndCA := fun _ _ => rfl
theorem pushHl : Statement .pushHl := fun _ _ => rfl
theorem rst20 : Statement .rst20 := fun _ _ => rfl
theorem jpHl : Statement .jpHl := fun _ _ => rfl
theorem rst28 : Statement .rst28 := fun _ _ => rfl
theorem popAf : Statement .popAf := fun _ _ => rfl
theorem ldAIndC : Statement .ldAIndC := fun _ _ => rfl
theorem di : Statement .di := fun _ _ => rfl
theorem pushAf : Statement .pushAf := fun _ _ => rfl
theorem rst30 : Statement .rst30 := fun _ _ => rfl
theorem ldSpHl : Statement .ldSpHl := fun _ _ => rfl
theorem ei : Statement .ei := fun _ _ => rfl
theorem rst38 : Statement .rst38 := fun _ _ => rfl
theorem rlcB : Statement .rlcB := fun _ _ => rfl
theorem rlcC : Statement .rlcC := fun _ _ => rfl
theorem rlcD : Statement .rlcD := fun _ _ => rfl
theorem rlcE : Statement .rlcE := fun _ _ => rfl
theorem rlcH : Statement .rlcH := fun _ _ => rfl
theorem rlcL : Statement .rlcL := fun _ _ => rfl
theorem rlcIndHl : Statement .rlcIndHl := fun _ _ => rfl
theorem rlcA : Statement .rlcA := fun _ _ => rfl
theorem rrcB : Statement .rrcB := fun _ _ => rfl
theorem rrcC : Statement .rrcC := fun _ _ => rfl
theorem rrcD : Statement .rrcD := fun _ _ => rfl
theorem rrcE : Statement .rrcE := fun _ _ => rfl
theorem rrcH : Statement .rrcH := fun _ _ => rfl
theorem rrcL : Statement .rrcL := fun _ _ => rfl
theorem rrcIndHl : Statement .rrcIndHl := fun _ _ => rfl
theorem rrcA : Statement .rrcA := fun _ _ => rfl
theorem rlB : Statement .rlB := fun _ _ => rfl
theorem rlC : Statement .rlC := fun _ _ => rfl
theorem rlD : Statement .rlD := fun _ _ => rfl
theorem rlE : Statement .rlE := fun _ _ => rfl
theorem rlH : Statement .rlH := fun _ _ => rfl
theorem rlL : Statement .rlL := fun _ _ => rfl
theorem rlIndHl : Statement .rlIndHl := fun _ _ => rfl
theorem rlA : Statement .rlA := fun _ _ => rfl
theorem rrB : Statement .rrB := fun _ _ => rfl
theorem rrC : Statement .rrC := fun _ _ => rfl
theorem rrD : Statement .rrD := fun _ _ => rfl
theorem rrE : Statement .rrE := fun _ _ => rfl
theorem rrH : Statement .rrH := fun _ _ => rfl
theorem rrL : Statement .rrL := fun _ _ => rfl
theorem rrIndHl : Statement .rrIndHl := fun _ _ => rfl
theorem rrA : Statement .rrA := fun _ _ => rfl
theorem slaB : Statement .slaB := fun _ _ => rfl
theorem slaC : Statement .slaC := fun _ _ => rfl
theorem slaD : Statement .slaD := fun _ _ => rfl
theorem slaE : Statement .slaE := fun _ _ => rfl
theorem slaH : Statement .slaH := fun _ _ => rfl
theorem slaL : Statement .slaL := fun _ _ => rfl
theorem slaIndHl : Statement .slaIndHl := fun _ _ => rfl
theorem slaA : Statement .slaA := fun _ _ => rfl
theorem sraB : Statement .sraB := fun _ _ => rfl
theorem sraC : Statement .sraC := fun _ _ => rfl
theorem sraD : Statement .sraD := fun _ _ => rfl
theorem sraE : Statement .sraE := fun _ _ => rfl
theorem sraH : Statement .sraH := fun _ _ => rfl
theorem sraL : Statement .sraL := fun _ _ => rfl
theorem sraIndHl : Statement .sraIndHl := fun _ _ => rfl
theorem sraA : Statement .sraA := fun _ _ => rfl
theorem swapB : Statement .swapB := fun _ _ => rfl
theorem swapC : Statement .swapC := fun _ _ => rfl
theorem swapD : Statement .swapD := fun _ _ => rfl
theorem swapE : Statement .swapE := fun _ _ => rfl
theorem swapH : Statement .swapH := fun _ _ => rfl
theorem swapL : Statement .swapL := fun _ _ => rfl
theorem swapIndHl : Statement .swapIndHl := fun _ _ => rfl
theorem swapA : Statement .swapA := fun _ _ => rfl
theorem srlB : Statement .srlB := fun _ _ => rfl
theorem srlC : Statement .srlC := fun _ _ => rfl
theorem srlD : Statement .srlD := fun _ _ => rfl
theorem srlE : Statement .srlE := fun _ _ => rfl
theorem srlH : Statement .srlH := fun _ _ => rfl
theorem srlL : Statement .srlL := fun _ _ => rfl
theorem srlIndHl : Statement .srlIndHl := fun _ _ => rfl
theorem srlA : Statement .srlA := fun _ _ => rfl
theorem bit0B : Statement .bit0B := fun _ _ => rfl
theorem bit0C : Statement .bit0C := fun _ _ => rfl
theorem bit0D : Statement .bit0D := fun _ _ => rfl
theorem bit0E : Statement .bit0E := fun _ _ => rfl
theorem bit0H : Statement .bit0H := fun _ _ => rfl
theorem bit0L : Statement .bit0L := fun _ _ => rfl
theorem bit0IndHl : Statement .bit0IndHl := fun _ _ => rfl
theorem bit0A : Statement .bit0A := fun _ _ => rfl
theorem bit1B : Statement .bit1B := fun _ _ => rfl
theorem bit1C : Statement .bit1C := fun _ _ => rfl
theorem bit1D : Statement .bit1D := fun _ _ => rfl
theorem bit1E : Statement .bit1E := fun _ _ => rfl
theorem bit1H : Statement .bit1H := fun _ _ => rfl
theorem bit1L : Statement .bit1L := fun _ _ => rfl
theorem bit1IndHl : Statement .bit1IndHl := fun _ _ => rfl
theorem bit1A : Statement .bit1A := fun _ _ => rfl
theorem bit2B : Statement .bit2B := fun _ _ => rfl
theorem bit2C : Statement .bit2C := fun _ _ => rfl
theorem bit2D : Statement .bit2D := fun _ _ => rfl
theorem bit2E : Statement .bit2E := fun _ _ => rfl
theorem bit2H : Statement .bit2H := fun _ _ => rfl
theorem bit2L : Statement .bit2L := fun _ _ => rfl
theorem bit2IndHl : Statement .bit2IndHl := fun _ _ => rfl
theorem bit2A : Statement .bit2A := fun _ _ => rfl
theorem bit3B : Statement .bit3B := fun _ _ => rfl
theorem bit3C : Statement .bit3C := fun _ _ => rfl
theorem bit3D : Statement .bit3D := fun _ _ => rfl
theorem bit3E : Statement .bit3E := fun _ _ => rfl
theorem bit3H : Statement .bit3H := fun _ _ => rfl
theorem bit3L : Statement .bit3L := fun _ _ => rfl
theorem bit3IndHl : Statement .bit3IndHl := fun _ _ => rfl
theorem bit3A : Statement .bit3A := fun _ _ => rfl
theorem bit4B : Statement .bit4B := fun _ _ => rfl
theorem bit4C : Statement .bit4C := fun _ _ => rfl
theorem bit4D : Statement .bit4D := fun _ _ => rfl
theorem bit4E : Statement .bit4E := fun _ _ => rfl
theorem bit4H : Statement .bit4H := fun _ _ => rfl
theorem bit4L : Statement .bit4L := fun _ _ => rfl
theorem bit4IndHl : Statement .bit4IndHl := fun _ _ => rfl
theorem bit4A : Statement .bit4A := fun _ _ => rfl
theorem bit5B : Statement .bit5B := fun _ _ => rfl
theorem bit5C : Statement .bit5C := fun _ _ => rfl
theorem bit5D : Statement .bit5D := fun _ _ => rfl
theorem bit5E : Statement .bit5E := fun _ _ => rfl
theorem bit5H : Statement .bit5H := fun _ _ => rfl
theorem bit5L : Statement .bit5L := fun _ _ => rfl
theorem bit5IndHl : Statement .bit5IndHl := fun _ _ => rfl
theorem bit5A : Statement .bit5A := fun _ _ => rfl
theorem bit6B : Statement .bit6B := fun _ _ => rfl
theorem bit6C : Statement .bit6C := fun _ _ => rfl
theorem bit6D : Statement .bit6D := fun _ _ => rfl
theorem bit6E : Statement .bit6E := fun _ _ => rfl
theorem bit6H : Statement .bit6H := fun _ _ => rfl
theorem bit6L : Statement .bit6L := fun _ _ => rfl
theorem bit6IndHl : Statement .bit6IndHl := fun _ _ => rfl
theorem bit6A : Statement .bit6A := fun _ _ => rfl
theorem bit7B : Statement .bit7B := fun _ _ => rfl
theorem bit7C : Statement .bit7C := fun _ _ => rfl
theorem bit7D : Statement .bit7D := fun _ _ => rfl
theorem bit7E : Statement .bit7E := fun _ _ => rfl
theorem bit7H : Statement .bit7H := fun _ _ => rfl
theorem bit7L : Statement .bit7L := fun _ _ => rfl
theorem bit7IndHl : Statement .bit7IndHl := fun _ _ => rfl
theorem bit7A : Statement .bit7A := fun _ _ => rfl
theorem res0B : Statement .res0B := fun _ _ => rfl
theorem res0C : Statement .res0C := fun _ _ => rfl
theorem res0D : Statement .res0D := fun _ _ => rfl
theorem res0E : Statement .res0E := fun _ _ => rfl
theorem res0H : Statement .res0H := fun _ _ => rfl
theorem res0L : Statement .res0L := fun _ _ => rfl
theorem res0IndHl : Statement .res0IndHl := fun _ _ => rfl
theorem res0A : Statement .res0A := fun _ _ => rfl
theorem res1B : Statement .res1B := fun _ _ => rfl
theorem res1C : Statement .res1C := fun _ _ => rfl
theorem res1D : Statement .res1D := fun _ _ => rfl
theorem res1E : Statement .res1E := fun _ _ => rfl
theorem res1H : Statement .res1H := fun _ _ => rfl
theorem res1L : Statement .res1L := fun _ _ => rfl
theorem res1IndHl : Statement .res1IndHl := fun _ _ => rfl
theorem res1A : Statement .res1A := fun _ _ => rfl
theorem res2B : Statement .res2B := fun _ _ => rfl
theorem res2C : Statement .res2C := fun _ _ => rfl
theorem res2D : Statement .res2D := fun _ _ => rfl
theorem res2E : Statement .res2E := fun _ _ => rfl
theorem res2H : Statement .res2H := fun _ _ => rfl
theorem res2L : Statement .res2L := fun _ _ => rfl
theorem res2IndHl : Statement .res2IndHl := fun _ _ => rfl
theorem res2A : Statement .res2A := fun _ _ => rfl
theorem res3B : Statement .res3B := fun _ _ => rfl
theorem res3C : Statement .res3C := fun _ _ => rfl
theorem res3D : Statement .res3D := fun _ _ => rfl
theorem res3E : Statement .res3E := fun _ _ => rfl
theorem res3H : Statement .res3H := fun _ _ => rfl
theorem res3L : Statement .res3L := fun _ _ => rfl
theorem res3IndHl : Statement .res3IndHl := fun _ _ => rfl
theorem res3A : Statement .res3A := fun _ _ => rfl
theorem res4B : Statement .res4B := fun _ _ => rfl
theorem res4C : Statement .res4C := fun _ _ => rfl
theorem res4D : Statement .res4D := fun _ _ => rfl
theorem res4E : Statement .res4E := fun _ _ => rfl
theorem res4H : Statement .res4H := fun _ _ => rfl
theorem res4L : Statement .res4L := fun _ _ => rfl
theorem res4IndHl : Statement .res4IndHl := fun _ _ => rfl
theorem res4A : Statement .res4A := fun _ _ => rfl
theorem res5B : Statement .res5B := fun _ _ => rfl
theorem res5C : Statement .res5C := fun _ _ => rfl
theorem res5D : Statement .res5D := fun _ _ => rfl
theorem res5E : Statement .res5E := fun _ _ => rfl
theorem res5H : Statement .res5H := fun _ _ => rfl
theorem res5L : Statement .res5L := fun _ _ => rfl
theorem res5IndHl : Statement .res5IndHl := fun _ _ => rfl
theorem res5A : Statement .res5A := fun _ _ => rfl
theorem res6B : Statement .res6B := fun _ _ => rfl
theorem res6C : Statement .res6C := fun _ _ => rfl
theorem res6D : Statement .res6D := fun _ _ => rfl
theorem res6E : Statement .res6E := fun _ _ => rfl
theorem res6H : Statement .res6H := fun _ _ => rfl
theorem res6L : Statement .res6L := fun _ _ => rfl
theorem res6IndHl : Statement .res6IndHl := fun _ _ => rfl
theorem res6A : Statement .res6A := fun _ _ => rfl
theorem res7B : Statement .res7B := fun _ _ => rfl
theorem res7C : Statement .res7C := fun _ _ => rfl
theorem res7D : Statement .res7D := fun _ _ => rfl
theorem res7E : Statement .res7E := fun _ _ => rfl
theorem res7H : Statement .res7H := fun _ _ => rfl
theorem res7L : Statement .res7L := fun _ _ => rfl
theorem res7IndHl : Statement .res7IndHl := fun _ _ => rfl
theorem res7A : Statement .res7A := fun _ _ => rfl
theorem set0B : Statement .set0B := fun _ _ => rfl
theorem set0C : Statement .set0C := fun _ _ => rfl
theorem set0D : Statement .set0D := fun _ _ => rfl
theorem set0E : Statement .set0E := fun _ _ => rfl
theorem set0H : Statement .set0H := fun _ _ => rfl
theorem set0L : Statement .set0L := fun _ _ => rfl
theorem set0IndHl : Statement .set0IndHl := fun _ _ => rfl
theorem set0A : Statement .set0A := fun _ _ => rfl
theorem set1B : Statement .set1B := fun _ _ => rfl
theorem set1C : Statement .set1C := fun _ _ => rfl
theorem set1D : Statement .set1D := fun _ _ => rfl
theorem set1E : Statement .set1E := fun _ _ => rfl
theorem set1H : Statement .set1H := fun _ _ => rfl
theorem set1L : Statement .set1L := fun _ _ => rfl
theorem set1IndHl : Statement .set1IndHl := fun _ _ => rfl
theorem set1A : Statement .set1A := fun _ _ => rfl
theorem set2B : Statement .set2B := fun _ _ => rfl
theorem set2C : Statement .set2C := fun _ _ => rfl
theorem set2D : Statement .set2D := fun _ _ => rfl
theorem set2E : Statement .set2E := fun _ _ => rfl
theorem set2H : Statement .set2H := fun _ _ => rfl
theorem set2L : Statement .set2L := fun _ _ => rfl
theorem set2IndHl : Statement .set2IndHl := fun _ _ => rfl
theorem set2A : Statement .set2A := fun _ _ => rfl
theorem set3B : Statement .set3B := fun _ _ => rfl
theorem set3C : Statement .set3C := fun _ _ => rfl
theorem set3D : Statement .set3D := fun _ _ => rfl
theorem set3E : Statement .set3E := fun _ _ => rfl
theorem set3H : Statement .set3H := fun _ _ => rfl
theorem set3L : Statement .set3L := fun _ _ => rfl
theorem set3IndHl : Statement .set3IndHl := fun _ _ => rfl
theorem set3A : Statement .set3A := fun _ _ => rfl
theorem set4B : Statement .set4B := fun _ _ => rfl
theorem set4C : Statement .set4C := fun _ _ => rfl
theorem set4D : Statement .set4D := fun _ _ => rfl
theorem set4E : Statement .set4E := fun _ _ => rfl
theorem set4H : Statement .set4H := fun _ _ => rfl
theorem set4L : Statement .set4L := fun _ _ => rfl
theorem set4IndHl : Statement .set4IndHl := fun _ _ => rfl
theorem set4A : Statement .set4A := fun _ _ => rfl
theorem set5B : Statement .set5B := fun _ _ => rfl
theorem set5C : Statement .set5C := fun _ _ => rfl
theorem set5D : Statement .set5D := fun _ _ => rfl
theorem set5E : Statement .set5E := fun _ _ => rfl
theorem set5H : Statement .set5H := fun _ _ => rfl
theorem set5L : Statement .set5L := fun _ _ => rfl
theorem set5IndHl : Statement .set5IndHl := fun _ _ => rfl
theorem set5A : Statement .set5A := fun _ _ => rfl
theorem set6B : Statement .set6B := fun _ _ => rfl
theorem set6C : Statement .set6C := fun _ _ => rfl
theorem set6D : Statement .set6D := fun _ _ => rfl
theorem set6E : Statement .set6E := fun _ _ => rfl
theorem set6H : Statement .set6H := fun _ _ => rfl
theorem set6L : Statement .set6L := fun _ _ => rfl
theorem set6IndHl : Statement .set6IndHl := fun _ _ => rfl
theorem set6A : Statement .set6A := fun _ _ => rfl
theorem set7B : Statement .set7B := fun _ _ => rfl
theorem set7C : Statement .set7C := fun _ _ => rfl
theorem set7D : Statement .set7D := fun _ _ => rfl
theorem set7E : Statement .set7E := fun _ _ => rfl
theorem set7H : Statement .set7H := fun _ _ => rfl
theorem set7L : Statement .set7L := fun _ _ => rfl
theorem set7IndHl : Statement .set7IndHl := fun _ _ => rfl
theorem set7A : Statement .set7A := fun _ _ => rfl

end Sys2Proof.Laws.RoundTrip
end

