-- ==== Sys2Proof/Laws/Stopped.lean ====
section
/-! SUPPORT. No instruction looks at the stopped flag, and none clears it: running one with the flag set is running it and
setting the flag afterwards (spec/10_state.md R25). One law a shared form, then one for every instruction. -/

namespace Sys2Proof.Machine

/-- The state with the stopped flag set. -/
def State.stopping (s : State) : State := s.onCpu fun c => { c with stopped := true }

/-- What follows `o'` with the flag set is `o`. -/
abbrev Stopping (o o' : Out) : Prop := o = onNext State.stopping o'

/-! ## The shared operations -/

theorem withRead_stopping {a : Word} {s : State} {k k' : Byte → Out} (h : ∀ v, Stopping (k v) (k' v)) :
    Stopping (withRead a s.stopping k) (withRead a s k') := by
  unfold withRead
  rw [show busRead a s.stopping = busRead a s from rfl]
  cases busRead a s with
  | ok v => exact h v
  | error f => rfl

theorem withWrite_stopping {a : Word} {v : Byte} {s : State} {k k' : State → Out}
    (h : ∀ m, m.settings = s.settings → Stopping (k m.stopping) (k' m)) :
    Stopping (withWrite a v s.stopping k) (withWrite a v s k') := by
  unfold withWrite
  rw [show busWrite a v s.stopping = _ from busWrite_onCpu a v s _]
  cases hw : busWrite a v s with
  | ok m => exact h m (busWrite_unitsKept hw).settings
  | error f => rfl

theorem push16_stopping {v : Word} {s : State} {k k' : State → Out}
    (h : ∀ m, m.settings = s.settings → Stopping (k m.stopping) (k' m)) : Stopping (push16 v s.stopping k) (push16 v s k') :=
  withWrite_stopping (s := s.onCpu fun c => { c with sp := c.sp - 1 }) fun m hm =>
    withWrite_stopping (s := m.onCpu fun c => { c with sp := c.sp - 1 }) fun n hn => h n (hn.trans hm)

theorem pop16_stopping {s : State} {k k' : Word → State → Out} (h : ∀ v (m : State), Stopping (k v m.stopping) (k' v m)) :
    Stopping (pop16 s.stopping k) (pop16 s k') :=
  withRead_stopping fun _ => withRead_stopping (s := s.onCpu fun c => { c with sp := c.sp + 1 }) fun _ =>
    h _ ((s.onCpu fun c => { c with sp := c.sp + 1 }).onCpu fun c => { c with sp := c.sp + 1 })

theorem fetch8_stopping {s : State} {k k' : Byte → State → Out} (h : ∀ v (m : State), Stopping (k v m.stopping) (k' v m)) :
    Stopping (fetch8 s.stopping k) (fetch8 s k') :=
  withRead_stopping fun v => h v (s.onCpu fun c => { c with pc := c.pc + 1 })

theorem takeInterrupt_stopping {n : Nat} {s : State} {k k' : State → Out}
    (h : ∀ m, m.settings = s.settings → Stopping (k m.stopping) (k' m)) : Stopping (takeInterrupt n s.stopping k) (takeInterrupt n s k') :=
  push16_stopping (s := ({ s with
    cpu := { s.cpu with ime := false }
    irq := s.irq.acknowledge n } : State).charge s.settings.intDispatchCycles) fun m hm => h (m.jump (interruptVector n)) hm

theorem returnFromInterrupt_stopping {s : State} {k k' : State → Out} (h : ∀ m : State, Stopping (k m.stopping) (k' m)) :
    Stopping (returnFromInterrupt s.stopping k) (returnFromInterrupt s k') :=
  pop16_stopping fun pc m => h ((m.jump pc).onCpu fun c => { c with ime := true })

theorem readLoc_stopping {x : Loc} {s : State} {k k' : Byte → Out} (h : ∀ v, Stopping (k v) (k' v)) :
    Stopping (readLoc x s.stopping k) (readLoc x s k') := by
  cases x with
  | reg r => cases r <;> exact h _
  | atHl => exact withRead_stopping h

theorem writeLoc_stopping {x : Loc} {v : Byte} {s : State} {k k' : State → Out}
    (h : ∀ m : State, Stopping (k m.stopping) (k' m)) : Stopping (writeLoc x v s.stopping k) (writeLoc x v s k') := by
  cases x with
  | reg r =>
    rw [show writeLoc (.reg r) v s.stopping k = k (s.onCpu fun c => c.setReg r v).stopping by cases r <;> rfl]
    exact h _
  | atHl => exact withWrite_stopping fun m _ => h m

theorem modifyLoc_stopping {x : Loc} {g : Byte → Byte} {s : State} {k k' : Byte → State → Out}
    (h : ∀ v (m : State), Stopping (k v m.stopping) (k' v m)) : Stopping (modifyLoc x g s.stopping k) (modifyLoc x g s k') :=
  readLoc_stopping fun v => writeLoc_stopping (h v)

theorem ite_stopping {c : Prop} [Decidable c] {o o' p p' : Out} (h : Stopping o o') (h' : Stopping p p') :
    Stopping (if c then o else p) (if c then o' else p') := by split <;> assumption

/-! ## The shared forms of the families -/

theorem ldRegReg_stopping (y z : Reg8) (s : State) : Stopping (ldRegReg y z s.stopping) (ldRegReg y z s) := by
  cases y <;> cases z <;> rfl

theorem ldRegImm_stopping (y : Reg8) (n : Byte) (s : State) : Stopping (ldRegImm y n s.stopping) (ldRegImm y n s) := by
  cases y <;> rfl

theorem ldRegHl_stopping (y : Reg8) (s : State) : Stopping (ldRegHl y s.stopping) (ldRegHl y s) :=
  withRead_stopping fun _ => by cases y <;> rfl

theorem ldHlReg_stopping (y : Reg8) (s : State) : Stopping (ldHlReg y s.stopping) (ldHlReg y s) := by
  cases y <;> exact withWrite_stopping fun _ _ => rfl

theorem ldAHlStep_stopping (d : Word) (s : State) : Stopping (ldAHlStep d s.stopping) (ldAHlStep d s) :=
  withRead_stopping fun _ => rfl

theorem stAHlStep_stopping (d : Word) (s : State) : Stopping (stAHlStep d s.stopping) (stAHlStep d s) :=
  withWrite_stopping fun _ _ => rfl

theorem ldAFrom_stopping (a : Word) (n : Nat) (s : State) : Stopping (ldAFrom a n s.stopping) (ldAFrom a n s) :=
  withRead_stopping fun _ => rfl

theorem stAAt_stopping (a : Word) (n : Nat) (s : State) : Stopping (stAAt a n s.stopping) (stAAt a n s) :=
  withWrite_stopping fun _ _ => rfl

theorem ldPairImm_stopping (p : RegPair) (nn : Word) (s : State) : Stopping (ldPairImm p nn s.stopping) (ldPairImm p nn s) := by
  cases p <;> rfl

theorem ldHlSpOffset_stopping (e : Byte) (s : State) : Stopping (ldHlSpOffset e s.stopping) (ldHlSpOffset e s) := rfl

theorem pushPair_stopping (q : StackPair) (s : State) : Stopping (pushPair q s.stopping) (pushPair q s) := by
  cases q <;> exact push16_stopping fun _ _ => rfl

theorem popPair_stopping (q : StackPair) (s : State) : Stopping (popPair q s.stopping) (popPair q s) :=
  pop16_stopping fun _ _ => by cases q <;> rfl

theorem aluAcc_stopping (op : AluOp) (src : AluSrc) (n : Nat) (s : State) :
    Stopping (aluAcc op src n s.stopping) (aluAcc op src n s) := by
  cases src with
  | loc x =>
    unfold aluAcc aluOperand
    exact readLoc_stopping fun _ => rfl
  | imm n => rfl

theorem incLoc_stopping (x : Loc) (n : Nat) (s : State) : Stopping (incLoc x n s.stopping) (incLoc x n s) :=
  modifyLoc_stopping fun _ _ => rfl

theorem decLoc_stopping (x : Loc) (n : Nat) (s : State) : Stopping (decLoc x n s.stopping) (decLoc x n s) :=
  modifyLoc_stopping fun _ _ => rfl

theorem onAcc_stopping (g : Byte → Flags → ByteOut) (s : State) : Stopping (onAcc g s.stopping) (onAcc g s) := rfl

theorem addHlPair_stopping (p : RegPair) (s : State) : Stopping (addHlPair p s.stopping) (addHlPair p s) := by
  cases p <;> rfl

theorem stepPair_stopping (p : RegPair) (d : Word) (s : State) : Stopping (stepPair p d s.stopping) (stepPair p d s) := by
  cases p <;> rfl

theorem addSpOffset_stopping (e : Byte) (s : State) : Stopping (addSpOffset e s.stopping) (addSpOffset e s) := rfl

theorem rotateAcc_stopping (op : ShiftOp) (s : State) : Stopping (rotateAcc op s.stopping) (rotateAcc op s) := rfl

theorem shiftLoc_stopping (op : ShiftOp) (x : Loc) (n : Nat) (s : State) :
    Stopping (shiftLoc op x n s.stopping) (shiftLoc op x n s) := modifyLoc_stopping fun _ _ => rfl

theorem bitLoc_stopping (b : Fin 8) (x : Loc) (n : Nat) (s : State) : Stopping (bitLoc b x n s.stopping) (bitLoc b x n s) :=
  readLoc_stopping fun _ => rfl

theorem resLoc_stopping (b : Fin 8) (x : Loc) (n : Nat) (s : State) : Stopping (resLoc b x n s.stopping) (resLoc b x n s) :=
  modifyLoc_stopping fun _ _ => rfl

theorem setLoc_stopping (b : Fin 8) (x : Loc) (n : Nat) (s : State) : Stopping (setLoc b x n s.stopping) (setLoc b x n s) :=
  modifyLoc_stopping fun _ _ => rfl

theorem jpIf_stopping (cc : Cond) (nn : Word) (s : State) : Stopping (jpIf cc nn s.stopping) (jpIf cc nn s) :=
  ite_stopping rfl rfl

theorem jrIf_stopping (cc : Cond) (e : Byte) (s : State) : Stopping (jrIf cc e s.stopping) (jrIf cc e s) :=
  ite_stopping rfl rfl

theorem callTo_stopping (target : Word) (n : Nat) (s : State) : Stopping (callTo target n s.stopping) (callTo target n s) :=
  push16_stopping fun _ _ => rfl

theorem callIf_stopping (cc : Cond) (nn : Word) (s : State) : Stopping (callIf cc nn s.stopping) (callIf cc nn s) :=
  ite_stopping (callTo_stopping nn 24 s) rfl

theorem retFrom_stopping (n : Nat) (s : State) : Stopping (retFrom n s.stopping) (retFrom n s) :=
  pop16_stopping fun _ _ => rfl

theorem retIf_stopping (cc : Cond) (s : State) : Stopping (retIf cc s.stopping) (retIf cc s) :=
  ite_stopping (retFrom_stopping 20 s) rfl

theorem cbByFields_stopping (cb : Byte) (s : State) : Stopping (cbByFields cb s.stopping) (cbByFields cb s) :=
  ite_stopping (shiftLoc_stopping _ _ _ s) <| ite_stopping (bitLoc_stopping _ _ _ s) <|
    ite_stopping (resLoc_stopping _ _ _ s) (setLoc_stopping _ _ _ s)

/-! ## Every instruction, and the units after it -/

/-- With the stopped flag set an instruction does what it does without it, and the flag stays set. -/
theorem exec_stopping (i : Instr) (s : State) : Stopping (exec i s.stopping) (exec i s) := by
  cases i with
  | ldBcNn nn => exact ldPairImm_stopping .bc nn s
  | ldBN n => exact ldRegImm_stopping .b n s
  | ldIndNnSp nn => exact withWrite_stopping fun _ _ => withWrite_stopping fun _ _ => rfl
  | ldCN n => exact ldRegImm_stopping .c n s
  | ldDeNn nn => exact ldPairImm_stopping .de nn s
  | ldDN n => exact ldRegImm_stopping .d n s
  | jrE e => exact rfl
  | ldEN n => exact ldRegImm_stopping .e n s
  | jrNZE e => exact jrIf_stopping .nz e s
  | ldHlNn nn => exact ldPairImm_stopping .hl nn s
  | ldHN n => exact ldRegImm_stopping .h n s
  | jrZE e => exact jrIf_stopping .z e s
  | ldLN n => exact ldRegImm_stopping .l n s
  | jrNCE e => exact jrIf_stopping .nc e s
  | ldSpNn nn => exact ldPairImm_stopping .sp nn s
  | ldIndHlN n => exact withWrite_stopping fun _ _ => rfl
  | jrCE e => exact jrIf_stopping .c e s
  | ldAN n => exact ldRegImm_stopping .a n s
  | jpNZNn nn => exact jpIf_stopping .nz nn s
  | jpNn nn => exact rfl
  | callNZNn nn => exact callIf_stopping .nz nn s
  | addAN n => exact aluAcc_stopping .add (.imm n) 8 s
  | jpZNn nn => exact jpIf_stopping .z nn s
  | prefixCb cb => exact cbByFields_stopping cb s
  | callZNn nn => exact callIf_stopping .z nn s
  | callNn nn => exact callTo_stopping nn 24 s
  | adcAN n => exact aluAcc_stopping .adc (.imm n) 8 s
  | jpNCNn nn => exact jpIf_stopping .nc nn s
  | undefined op => exact rfl
  | callNCNn nn => exact callIf_stopping .nc nn s
  | subAN n => exact aluAcc_stopping .sub (.imm n) 8 s
  | jpCNn nn => exact jpIf_stopping .c nn s
  | callCNn nn => exact callIf_stopping .c nn s
  | sbcAN n => exact aluAcc_stopping .sbc (.imm n) 8 s
  | ldhIndA8A a8 => exact stAAt_stopping (ioPage a8) 12 s
  | andAN n => exact aluAcc_stopping .and (.imm n) 8 s
  | addSpE e => exact addSpOffset_stopping e s
  | ldIndNnA nn => exact stAAt_stopping nn 16 s
  | xorAN n => exact aluAcc_stopping .xor (.imm n) 8 s
  | ldhAIndA8 a8 => exact ldAFrom_stopping (ioPage a8) 12 s
  | orAN n => exact aluAcc_stopping .or (.imm n) 8 s
  | ldHlSpE e => exact ldHlSpOffset_stopping e s
  | ldAIndNn nn => exact ldAFrom_stopping nn 16 s
  | cpAN n => exact aluAcc_stopping .cp (.imm n) 8 s
  | nop => exact rfl
  | ldIndBcA => exact stAAt_stopping s.cpu.bc 8 s
  | incBc => exact stepPair_stopping .bc 1 s
  | incB => exact incLoc_stopping (.reg .b) 4 s
  | decB => exact decLoc_stopping (.reg .b) 4 s
  | rlca => exact rotateAcc_stopping .rlc s
  | addHlBc => exact addHlPair_stopping .bc s
  | ldAIndBc => exact ldAFrom_stopping s.cpu.bc 8 s
  | decBc => exact stepPair_stopping .bc (-1) s
  | incC => exact incLoc_stopping (.reg .c) 4 s
  | decC => exact decLoc_stopping (.reg .c) 4 s
  | rrca => exact rotateAcc_stopping .rrc s
  | stop => exact rfl
  | ldIndDeA => exact stAAt_stopping s.cpu.de 8 s
  | incDe => exact stepPair_stopping .de 1 s
  | incD => exact incLoc_stopping (.reg .d) 4 s
  | decD => exact decLoc_stopping (.reg .d) 4 s
  | rla => exact rotateAcc_stopping .rl s
  | addHlDe => exact addHlPair_stopping .de s
  | ldAIndDe => exact ldAFrom_stopping s.cpu.de 8 s
  | decDe => exact stepPair_stopping .de (-1) s
  | incE => exact incLoc_stopping (.reg .e) 4 s
  | decE => exact decLoc_stopping (.reg .e) 4 s
  | rra => exact rotateAcc_stopping .rr s
  | ldIndHlIncA => exact stAHlStep_stopping 1 s
  | incHl => exact stepPair_stopping .hl 1 s
  | incH => exact incLoc_stopping (.reg .h) 4 s
  | decH => exact decLoc_stopping (.reg .h) 4 s
  | daa => exact onAcc_stopping daa8 s
  | addHlHl => exact addHlPair_stopping .hl s
  | ldAIndHlInc => exact ldAHlStep_stopping 1 s
  | decHl => exact stepPair_stopping .hl (-1) s
  | incL => exact incLoc_stopping (.reg .l) 4 s
  | decL => exact decLoc_stopping (.reg .l) 4 s
  | cpl => exact onAcc_stopping cpl8 s
  | ldIndHlDecA => exact stAHlStep_stopping (-1) s
  | incSp => exact stepPair_stopping .sp 1 s
  | incIndHl => exact incLoc_stopping .atHl 12 s
  | decIndHl => exact decLoc_stopping .atHl 12 s
  | scf => exact rfl
  | addHlSp => exact addHlPair_stopping .sp s
  | ldAIndHlDec => exact ldAHlStep_stopping (-1) s
  | decSp => exact stepPair_stopping .sp (-1) s
  | incA => exact incLoc_stopping (.reg .a) 4 s
  | decA => exact decLoc_stopping (.reg .a) 4 s
  | ccf => exact rfl
  | ldBB => exact ldRegReg_stopping .b .b s
  | ldBC => exact ldRegReg_stopping .b .c s
  | ldBD => exact ldRegReg_stopping .b .d s
  | ldBE => exact ldRegReg_stopping .b .e s
  | ldBH => exact ldRegReg_stopping .b .h s
  | ldBL => exact ldRegReg_stopping .b .l s
  | ldBIndHl => exact ldRegHl_stopping .b s
  | ldBA => exact ldRegReg_stopping .b .a s
  | ldCB => exact ldRegReg_stopping .c .b s
  | ldCC => exact ldRegReg_stopping .c .c s
  | ldCD => exact ldRegReg_stopping .c .d s
  | ldCE => exact ldRegReg_stopping .c .e s
  | ldCH => exact ldRegReg_stopping .c .h s
  | ldCL => exact ldRegReg_stopping .c .l s
  | ldCIndHl => exact ldRegHl_stopping .c s
  | ldCA => exact ldRegReg_stopping .c .a s
  | ldDB => exact ldRegReg_stopping .d .b s
  | ldDC => exact ldRegReg_stopping .d .c s
  | ldDD => exact ldRegReg_stopping .d .d s
  | ldDE => exact ldRegReg_stopping .d .e s
  | ldDH => exact ldRegReg_stopping .d .h s
  | ldDL => exact ldRegReg_stopping .d .l s
  | ldDIndHl => exact ldRegHl_stopping .d s
  | ldDA => exact ldRegReg_stopping .d .a s
  | ldEB => exact ldRegReg_stopping .e .b s
  | ldEC => exact ldRegReg_stopping .e .c s
  | ldED => exact ldRegReg_stopping .e .d s
  | ldEE => exact ldRegReg_stopping .e .e s
  | ldEH => exact ldRegReg_stopping .e .h s
  | ldEL => exact ldRegReg_stopping .e .l s
  | ldEIndHl => exact ldRegHl_stopping .e s
  | ldEA => exact ldRegReg_stopping .e .a s
  | ldHB => exact ldRegReg_stopping .h .b s
  | ldHC => exact ldRegReg_stopping .h .c s
  | ldHD => exact ldRegReg_stopping .h .d s
  | ldHE => exact ldRegReg_stopping .h .e s
  | ldHH => exact ldRegReg_stopping .h .h s
  | ldHL => exact ldRegReg_stopping .h .l s
  | ldHIndHl => exact ldRegHl_stopping .h s
  | ldHA => exact ldRegReg_stopping .h .a s
  | ldLB => exact ldRegReg_stopping .l .b s
  | ldLC => exact ldRegReg_stopping .l .c s
  | ldLD => exact ldRegReg_stopping .l .d s
  | ldLE => exact ldRegReg_stopping .l .e s
  | ldLH => exact ldRegReg_stopping .l .h s
  | ldLL => exact ldRegReg_stopping .l .l s
  | ldLIndHl => exact ldRegHl_stopping .l s
  | ldLA => exact ldRegReg_stopping .l .a s
  | ldIndHlB => exact ldHlReg_stopping .b s
  | ldIndHlC => exact ldHlReg_stopping .c s
  | ldIndHlD => exact ldHlReg_stopping .d s
  | ldIndHlE => exact ldHlReg_stopping .e s
  | ldIndHlH => exact ldHlReg_stopping .h s
  | ldIndHlL => exact ldHlReg_stopping .l s
  | halt => exact rfl
  | ldIndHlA => exact ldHlReg_stopping .a s
  | ldAB => exact ldRegReg_stopping .a .b s
  | ldAC => exact ldRegReg_stopping .a .c s
  | ldAD => exact ldRegReg_stopping .a .d s
  | ldAE => exact ldRegReg_stopping .a .e s
  | ldAH => exact ldRegReg_stopping .a .h s
  | ldAL => exact ldRegReg_stopping .a .l s
  | ldAIndHl => exact ldRegHl_stopping .a s
  | ldAA => exact ldRegReg_stopping .a .a s
  | addAB => exact aluAcc_stopping .add (.loc (.reg .b)) 4 s
  | addAC => exact aluAcc_stopping .add (.loc (.reg .c)) 4 s
  | addAD => exact aluAcc_stopping .add (.loc (.reg .d)) 4 s
  | addAE => exact aluAcc_stopping .add (.loc (.reg .e)) 4 s
  | addAH => exact aluAcc_stopping .add (.loc (.reg .h)) 4 s
  | addAL => exact aluAcc_stopping .add (.loc (.reg .l)) 4 s
  | addAIndHl => exact aluAcc_stopping .add (.loc .atHl) 8 s
  | addAA => exact aluAcc_stopping .add (.loc (.reg .a)) 4 s
  | adcAB => exact aluAcc_stopping .adc (.loc (.reg .b)) 4 s
  | adcAC => exact aluAcc_stopping .adc (.loc (.reg .c)) 4 s
  | adcAD => exact aluAcc_stopping .adc (.loc (.reg .d)) 4 s
  | adcAE => exact aluAcc_stopping .adc (.loc (.reg .e)) 4 s
  | adcAH => exact aluAcc_stopping .adc (.loc (.reg .h)) 4 s
  | adcAL => exact aluAcc_stopping .adc (.loc (.reg .l)) 4 s
  | adcAIndHl => exact aluAcc_stopping .adc (.loc .atHl) 8 s
  | adcAA => exact aluAcc_stopping .adc (.loc (.reg .a)) 4 s
  | subAB => exact aluAcc_stopping .sub (.loc (.reg .b)) 4 s
  | subAC => exact aluAcc_stopping .sub (.loc (.reg .c)) 4 s
  | subAD => exact aluAcc_stopping .sub (.loc (.reg .d)) 4 s
  | subAE => exact aluAcc_stopping .sub (.loc (.reg .e)) 4 s
  | subAH => exact aluAcc_stopping .sub (.loc (.reg .h)) 4 s
  | subAL => exact aluAcc_stopping .sub (.loc (.reg .l)) 4 s
  | subAIndHl => exact aluAcc_stopping .sub (.loc .atHl) 8 s
  | subAA => exact aluAcc_stopping .sub (.loc (.reg .a)) 4 s
  | sbcAB => exact aluAcc_stopping .sbc (.loc (.reg .b)) 4 s
  | sbcAC => exact aluAcc_stopping .sbc (.loc (.reg .c)) 4 s
  | sbcAD => exact aluAcc_stopping .sbc (.loc (.reg .d)) 4 s
  | sbcAE => exact aluAcc_stopping .sbc (.loc (.reg .e)) 4 s
  | sbcAH => exact aluAcc_stopping .sbc (.loc (.reg .h)) 4 s
  | sbcAL => exact aluAcc_stopping .sbc (.loc (.reg .l)) 4 s
  | sbcAIndHl => exact aluAcc_stopping .sbc (.loc .atHl) 8 s
  | sbcAA => exact aluAcc_stopping .sbc (.loc (.reg .a)) 4 s
  | andAB => exact aluAcc_stopping .and (.loc (.reg .b)) 4 s
  | andAC => exact aluAcc_stopping .and (.loc (.reg .c)) 4 s
  | andAD => exact aluAcc_stopping .and (.loc (.reg .d)) 4 s
  | andAE => exact aluAcc_stopping .and (.loc (.reg .e)) 4 s
  | andAH => exact aluAcc_stopping .and (.loc (.reg .h)) 4 s
  | andAL => exact aluAcc_stopping .and (.loc (.reg .l)) 4 s
  | andAIndHl => exact aluAcc_stopping .and (.loc .atHl) 8 s
  | andAA => exact aluAcc_stopping .and (.loc (.reg .a)) 4 s
  | xorAB => exact aluAcc_stopping .xor (.loc (.reg .b)) 4 s
  | xorAC => exact aluAcc_stopping .xor (.loc (.reg .c)) 4 s
  | xorAD => exact aluAcc_stopping .xor (.loc (.reg .d)) 4 s
  | xorAE => exact aluAcc_stopping .xor (.loc (.reg .e)) 4 s
  | xorAH => exact aluAcc_stopping .xor (.loc (.reg .h)) 4 s
  | xorAL => exact aluAcc_stopping .xor (.loc (.reg .l)) 4 s
  | xorAIndHl => exact aluAcc_stopping .xor (.loc .atHl) 8 s
  | xorAA => exact aluAcc_stopping .xor (.loc (.reg .a)) 4 s
  | orAB => exact aluAcc_stopping .or (.loc (.reg .b)) 4 s
  | orAC => exact aluAcc_stopping .or (.loc (.reg .c)) 4 s
  | orAD => exact aluAcc_stopping .or (.loc (.reg .d)) 4 s
  | orAE => exact aluAcc_stopping .or (.loc (.reg .e)) 4 s
  | orAH => exact aluAcc_stopping .or (.loc (.reg .h)) 4 s
  | orAL => exact aluAcc_stopping .or (.loc (.reg .l)) 4 s
  | orAIndHl => exact aluAcc_stopping .or (.loc .atHl) 8 s
  | orAA => exact aluAcc_stopping .or (.loc (.reg .a)) 4 s
  | cpAB => exact aluAcc_stopping .cp (.loc (.reg .b)) 4 s
  | cpAC => exact aluAcc_stopping .cp (.loc (.reg .c)) 4 s
  | cpAD => exact aluAcc_stopping .cp (.loc (.reg .d)) 4 s
  | cpAE => exact aluAcc_stopping .cp (.loc (.reg .e)) 4 s
  | cpAH => exact aluAcc_stopping .cp (.loc (.reg .h)) 4 s
  | cpAL => exact aluAcc_stopping .cp (.loc (.reg .l)) 4 s
  | cpAIndHl => exact aluAcc_stopping .cp (.loc .atHl) 8 s
  | cpAA => exact aluAcc_stopping .cp (.loc (.reg .a)) 4 s
  | retNZ => exact retIf_stopping .nz s
  | popBc => exact popPair_stopping .bc s
  | pushBc => exact pushPair_stopping .bc s
  | rst00 => exact callTo_stopping 0x0000 16 s
  | retZ => exact retIf_stopping .z s
  | ret => exact retFrom_stopping 16 s
  | rst08 => exact callTo_stopping 0x0008 16 s
  | retNC => exact retIf_stopping .nc s
  | popDe => exact popPair_stopping .de s
  | pushDe => exact pushPair_stopping .de s
  | rst10 => exact callTo_stopping 0x0010 16 s
  | retC => exact retIf_stopping .c s
  | reti => exact returnFromInterrupt_stopping fun _ => rfl
  | rst18 => exact callTo_stopping 0x0018 16 s
  | popHl => exact popPair_stopping .hl s
  | ldIndCA => exact stAAt_stopping (ioPage s.cpu.c) 8 s
  | pushHl => exact pushPair_stopping .hl s
  | rst20 => exact callTo_stopping 0x0020 16 s
  | jpHl => exact rfl
  | rst28 => exact callTo_stopping 0x0028 16 s
  | popAf => exact popPair_stopping .af s
  | ldAIndC => exact ldAFrom_stopping (ioPage s.cpu.c) 8 s
  | di => exact rfl
  | pushAf => exact pushPair_stopping .af s
  | rst30 => exact callTo_stopping 0x0030 16 s
  | ldSpHl => exact rfl
  | ei => exact rfl
  | rst38 => exact callTo_stopping 0x0038 16 s
  | rlcB => exact shiftLoc_stopping .rlc (.reg .b) 8 s
  | rlcC => exact shiftLoc_stopping .rlc (.reg .c) 8 s
  | rlcD => exact shiftLoc_stopping .rlc (.reg .d) 8 s
  | rlcE => exact shiftLoc_stopping .rlc (.reg .e) 8 s
  | rlcH => exact shiftLoc_stopping .rlc (.reg .h) 8 s
  | rlcL => exact shiftLoc_stopping .rlc (.reg .l) 8 s
  | rlcIndHl => exact shiftLoc_stopping .rlc .atHl 16 s
  | rlcA => exact shiftLoc_stopping .rlc (.reg .a) 8 s
  | rrcB => exact shiftLoc_stopping .rrc (.reg .b) 8 s
  | rrcC => exact shiftLoc_stopping .rrc (.reg .c) 8 s
  | rrcD => exact shiftLoc_stopping .rrc (.reg .d) 8 s
  | rrcE => exact shiftLoc_stopping .rrc (.reg .e) 8 s
  | rrcH => exact shiftLoc_stopping .rrc (.reg .h) 8 s
  | rrcL => exact shiftLoc_stopping .rrc (.reg .l) 8 s
  | rrcIndHl => exact shiftLoc_stopping .rrc .atHl 16 s
  | rrcA => exact shiftLoc_stopping .rrc (.reg .a) 8 s
  | rlB => exact shiftLoc_stopping .rl (.reg .b) 8 s
  | rlC => exact shiftLoc_stopping .rl (.reg .c) 8 s
  | rlD => exact shiftLoc_stopping .rl (.reg .d) 8 s
  | rlE => exact shiftLoc_stopping .rl (.reg .e) 8 s
  | rlH => exact shiftLoc_stopping .rl (.reg .h) 8 s
  | rlL => exact shiftLoc_stopping .rl (.reg .l) 8 s
  | rlIndHl => exact shiftLoc_stopping .rl .atHl 16 s
  | rlA => exact shiftLoc_stopping .rl (.reg .a) 8 s
  | rrB => exact shiftLoc_stopping .rr (.reg .b) 8 s
  | rrC => exact shiftLoc_stopping .rr (.reg .c) 8 s
  | rrD => exact shiftLoc_stopping .rr (.reg .d) 8 s
  | rrE => exact shiftLoc_stopping .rr (.reg .e) 8 s
  | rrH => exact shiftLoc_stopping .rr (.reg .h) 8 s
  | rrL => exact shiftLoc_stopping .rr (.reg .l) 8 s
  | rrIndHl => exact shiftLoc_stopping .rr .atHl 16 s
  | rrA => exact shiftLoc_stopping .rr (.reg .a) 8 s
  | slaB => exact shiftLoc_stopping .sla (.reg .b) 8 s
  | slaC => exact shiftLoc_stopping .sla (.reg .c) 8 s
  | slaD => exact shiftLoc_stopping .sla (.reg .d) 8 s
  | slaE => exact shiftLoc_stopping .sla (.reg .e) 8 s
  | slaH => exact shiftLoc_stopping .sla (.reg .h) 8 s
  | slaL => exact shiftLoc_stopping .sla (.reg .l) 8 s
  | slaIndHl => exact shiftLoc_stopping .sla .atHl 16 s
  | slaA => exact shiftLoc_stopping .sla (.reg .a) 8 s
  | sraB => exact shiftLoc_stopping .sra (.reg .b) 8 s
  | sraC => exact shiftLoc_stopping .sra (.reg .c) 8 s
  | sraD => exact shiftLoc_stopping .sra (.reg .d) 8 s
  | sraE => exact shiftLoc_stopping .sra (.reg .e) 8 s
  | sraH => exact shiftLoc_stopping .sra (.reg .h) 8 s
  | sraL => exact shiftLoc_stopping .sra (.reg .l) 8 s
  | sraIndHl => exact shiftLoc_stopping .sra .atHl 16 s
  | sraA => exact shiftLoc_stopping .sra (.reg .a) 8 s
  | swapB => exact shiftLoc_stopping .swap (.reg .b) 8 s
  | swapC => exact shiftLoc_stopping .swap (.reg .c) 8 s
  | swapD => exact shiftLoc_stopping .swap (.reg .d) 8 s
  | swapE => exact shiftLoc_stopping .swap (.reg .e) 8 s
  | swapH => exact shiftLoc_stopping .swap (.reg .h) 8 s
  | swapL => exact shiftLoc_stopping .swap (.reg .l) 8 s
  | swapIndHl => exact shiftLoc_stopping .swap .atHl 16 s
  | swapA => exact shiftLoc_stopping .swap (.reg .a) 8 s
  | srlB => exact shiftLoc_stopping .srl (.reg .b) 8 s
  | srlC => exact shiftLoc_stopping .srl (.reg .c) 8 s
  | srlD => exact shiftLoc_stopping .srl (.reg .d) 8 s
  | srlE => exact shiftLoc_stopping .srl (.reg .e) 8 s
  | srlH => exact shiftLoc_stopping .srl (.reg .h) 8 s
  | srlL => exact shiftLoc_stopping .srl (.reg .l) 8 s
  | srlIndHl => exact shiftLoc_stopping .srl .atHl 16 s
  | srlA => exact shiftLoc_stopping .srl (.reg .a) 8 s
  | bit0B => exact bitLoc_stopping 0 (.reg .b) 8 s
  | bit0C => exact bitLoc_stopping 0 (.reg .c) 8 s
  | bit0D => exact bitLoc_stopping 0 (.reg .d) 8 s
  | bit0E => exact bitLoc_stopping 0 (.reg .e) 8 s
  | bit0H => exact bitLoc_stopping 0 (.reg .h) 8 s
  | bit0L => exact bitLoc_stopping 0 (.reg .l) 8 s
  | bit0IndHl => exact bitLoc_stopping 0 .atHl 12 s
  | bit0A => exact bitLoc_stopping 0 (.reg .a) 8 s
  | bit1B => exact bitLoc_stopping 1 (.reg .b) 8 s
  | bit1C => exact bitLoc_stopping 1 (.reg .c) 8 s
  | bit1D => exact bitLoc_stopping 1 (.reg .d) 8 s
  | bit1E => exact bitLoc_stopping 1 (.reg .e) 8 s
  | bit1H => exact bitLoc_stopping 1 (.reg .h) 8 s
  | bit1L => exact bitLoc_stopping 1 (.reg .l) 8 s
  | bit1IndHl => exact bitLoc_stopping 1 .atHl 12 s
  | bit1A => exact bitLoc_stopping 1 (.reg .a) 8 s
  | bit2B => exact bitLoc_stopping 2 (.reg .b) 8 s
  | bit2C => exact bitLoc_stopping 2 (.reg .c) 8 s
  | bit2D => exact bitLoc_stopping 2 (.reg .d) 8 s
  | bit2E => exact bitLoc_stopping 2 (.reg .e) 8 s
  | bit2H => exact bitLoc_stopping 2 (.reg .h) 8 s
  | bit2L => exact bitLoc_stopping 2 (.reg .l) 8 s
  | bit2IndHl => exact bitLoc_stopping 2 .atHl 12 s
  | bit2A => exact bitLoc_stopping 2 (.reg .a) 8 s
  | bit3B => exact bitLoc_stopping 3 (.reg .b) 8 s
  | bit3C => exact bitLoc_stopping 3 (.reg .c) 8 s
  | bit3D => exact bitLoc_stopping 3 (.reg .d) 8 s
  | bit3E => exact bitLoc_stopping 3 (.reg .e) 8 s
  | bit3H => exact bitLoc_stopping 3 (.reg .h) 8 s
  | bit3L => exact bitLoc_stopping 3 (.reg .l) 8 s
  | bit3IndHl => exact bitLoc_stopping 3 .atHl 12 s
  | bit3A => exact bitLoc_stopping 3 (.reg .a) 8 s
  | bit4B => exact bitLoc_stopping 4 (.reg .b) 8 s
  | bit4C => exact bitLoc_stopping 4 (.reg .c) 8 s
  | bit4D => exact bitLoc_stopping 4 (.reg .d) 8 s
  | bit4E => exact bitLoc_stopping 4 (.reg .e) 8 s
  | bit4H => exact bitLoc_stopping 4 (.reg .h) 8 s
  | bit4L => exact bitLoc_stopping 4 (.reg .l) 8 s
  | bit4IndHl => exact bitLoc_stopping 4 .atHl 12 s
  | bit4A => exact bitLoc_stopping 4 (.reg .a) 8 s
  | bit5B => exact bitLoc_stopping 5 (.reg .b) 8 s
  | bit5C => exact bitLoc_stopping 5 (.reg .c) 8 s
  | bit5D => exact bitLoc_stopping 5 (.reg .d) 8 s
  | bit5E => exact bitLoc_stopping 5 (.reg .e) 8 s
  | bit5H => exact bitLoc_stopping 5 (.reg .h) 8 s
  | bit5L => exact bitLoc_stopping 5 (.reg .l) 8 s
  | bit5IndHl => exact bitLoc_stopping 5 .atHl 12 s
  | bit5A => exact bitLoc_stopping 5 (.reg .a) 8 s
  | bit6B => exact bitLoc_stopping 6 (.reg .b) 8 s
  | bit6C => exact bitLoc_stopping 6 (.reg .c) 8 s
  | bit6D => exact bitLoc_stopping 6 (.reg .d) 8 s
  | bit6E => exact bitLoc_stopping 6 (.reg .e) 8 s
  | bit6H => exact bitLoc_stopping 6 (.reg .h) 8 s
  | bit6L => exact bitLoc_stopping 6 (.reg .l) 8 s
  | bit6IndHl => exact bitLoc_stopping 6 .atHl 12 s
  | bit6A => exact bitLoc_stopping 6 (.reg .a) 8 s
  | bit7B => exact bitLoc_stopping 7 (.reg .b) 8 s
  | bit7C => exact bitLoc_stopping 7 (.reg .c) 8 s
  | bit7D => exact bitLoc_stopping 7 (.reg .d) 8 s
  | bit7E => exact bitLoc_stopping 7 (.reg .e) 8 s
  | bit7H => exact bitLoc_stopping 7 (.reg .h) 8 s
  | bit7L => exact bitLoc_stopping 7 (.reg .l) 8 s
  | bit7IndHl => exact bitLoc_stopping 7 .atHl 12 s
  | bit7A => exact bitLoc_stopping 7 (.reg .a) 8 s
  | res0B => exact resLoc_stopping 0 (.reg .b) 8 s
  | res0C => exact resLoc_stopping 0 (.reg .c) 8 s
  | res0D => exact resLoc_stopping 0 (.reg .d) 8 s
  | res0E => exact resLoc_stopping 0 (.reg .e) 8 s
  | res0H => exact resLoc_stopping 0 (.reg .h) 8 s
  | res0L => exact resLoc_stopping 0 (.reg .l) 8 s
  | res0IndHl => exact resLoc_stopping 0 .atHl 16 s
  | res0A => exact resLoc_stopping 0 (.reg .a) 8 s
  | res1B => exact resLoc_stopping 1 (.reg .b) 8 s
  | res1C => exact resLoc_stopping 1 (.reg .c) 8 s
  | res1D => exact resLoc_stopping 1 (.reg .d) 8 s
  | res1E => exact resLoc_stopping 1 (.reg .e) 8 s
  | res1H => exact resLoc_stopping 1 (.reg .h) 8 s
  | res1L => exact resLoc_stopping 1 (.reg .l) 8 s
  | res1IndHl => exact resLoc_stopping 1 .atHl 16 s
  | res1A => exact resLoc_stopping 1 (.reg .a) 8 s
  | res2B => exact resLoc_stopping 2 (.reg .b) 8 s
  | res2C => exact resLoc_stopping 2 (.reg .c) 8 s
  | res2D => exact resLoc_stopping 2 (.reg .d) 8 s
  | res2E => exact resLoc_stopping 2 (.reg .e) 8 s
  | res2H => exact resLoc_stopping 2 (.reg .h) 8 s
  | res2L => exact resLoc_stopping 2 (.reg .l) 8 s
  | res2IndHl => exact resLoc_stopping 2 .atHl 16 s
  | res2A => exact resLoc_stopping 2 (.reg .a) 8 s
  | res3B => exact resLoc_stopping 3 (.reg .b) 8 s
  | res3C => exact resLoc_stopping 3 (.reg .c) 8 s
  | res3D => exact resLoc_stopping 3 (.reg .d) 8 s
  | res3E => exact resLoc_stopping 3 (.reg .e) 8 s
  | res3H => exact resLoc_stopping 3 (.reg .h) 8 s
  | res3L => exact resLoc_stopping 3 (.reg .l) 8 s
  | res3IndHl => exact resLoc_stopping 3 .atHl 16 s
  | res3A => exact resLoc_stopping 3 (.reg .a) 8 s
  | res4B => exact resLoc_stopping 4 (.reg .b) 8 s
  | res4C => exact resLoc_stopping 4 (.reg .c) 8 s
  | res4D => exact resLoc_stopping 4 (.reg .d) 8 s
  | res4E => exact resLoc_stopping 4 (.reg .e) 8 s
  | res4H => exact resLoc_stopping 4 (.reg .h) 8 s
  | res4L => exact resLoc_stopping 4 (.reg .l) 8 s
  | res4IndHl => exact resLoc_stopping 4 .atHl 16 s
  | res4A => exact resLoc_stopping 4 (.reg .a) 8 s
  | res5B => exact resLoc_stopping 5 (.reg .b) 8 s
  | res5C => exact resLoc_stopping 5 (.reg .c) 8 s
  | res5D => exact resLoc_stopping 5 (.reg .d) 8 s
  | res5E => exact resLoc_stopping 5 (.reg .e) 8 s
  | res5H => exact resLoc_stopping 5 (.reg .h) 8 s
  | res5L => exact resLoc_stopping 5 (.reg .l) 8 s
  | res5IndHl => exact resLoc_stopping 5 .atHl 16 s
  | res5A => exact resLoc_stopping 5 (.reg .a) 8 s
  | res6B => exact resLoc_stopping 6 (.reg .b) 8 s
  | res6C => exact resLoc_stopping 6 (.reg .c) 8 s
  | res6D => exact resLoc_stopping 6 (.reg .d) 8 s
  | res6E => exact resLoc_stopping 6 (.reg .e) 8 s
  | res6H => exact resLoc_stopping 6 (.reg .h) 8 s
  | res6L => exact resLoc_stopping 6 (.reg .l) 8 s
  | res6IndHl => exact resLoc_stopping 6 .atHl 16 s
  | res6A => exact resLoc_stopping 6 (.reg .a) 8 s
  | res7B => exact resLoc_stopping 7 (.reg .b) 8 s
  | res7C => exact resLoc_stopping 7 (.reg .c) 8 s
  | res7D => exact resLoc_stopping 7 (.reg .d) 8 s
  | res7E => exact resLoc_stopping 7 (.reg .e) 8 s
  | res7H => exact resLoc_stopping 7 (.reg .h) 8 s
  | res7L => exact resLoc_stopping 7 (.reg .l) 8 s
  | res7IndHl => exact resLoc_stopping 7 .atHl 16 s
  | res7A => exact resLoc_stopping 7 (.reg .a) 8 s
  | set0B => exact setLoc_stopping 0 (.reg .b) 8 s
  | set0C => exact setLoc_stopping 0 (.reg .c) 8 s
  | set0D => exact setLoc_stopping 0 (.reg .d) 8 s
  | set0E => exact setLoc_stopping 0 (.reg .e) 8 s
  | set0H => exact setLoc_stopping 0 (.reg .h) 8 s
  | set0L => exact setLoc_stopping 0 (.reg .l) 8 s
  | set0IndHl => exact setLoc_stopping 0 .atHl 16 s
  | set0A => exact setLoc_stopping 0 (.reg .a) 8 s
  | set1B => exact setLoc_stopping 1 (.reg .b) 8 s
  | set1C => exact setLoc_stopping 1 (.reg .c) 8 s
  | set1D => exact setLoc_stopping 1 (.reg .d) 8 s
  | set1E => exact setLoc_stopping 1 (.reg .e) 8 s
  | set1H => exact setLoc_stopping 1 (.reg .h) 8 s
  | set1L => exact setLoc_stopping 1 (.reg .l) 8 s
  | set1IndHl => exact setLoc_stopping 1 .atHl 16 s
  | set1A => exact setLoc_stopping 1 (.reg .a) 8 s
  | set2B => exact setLoc_stopping 2 (.reg .b) 8 s
  | set2C => exact setLoc_stopping 2 (.reg .c) 8 s
  | set2D => exact setLoc_stopping 2 (.reg .d) 8 s
  | set2E => exact setLoc_stopping 2 (.reg .e) 8 s
  | set2H => exact setLoc_stopping 2 (.reg .h) 8 s
  | set2L => exact setLoc_stopping 2 (.reg .l) 8 s
  | set2IndHl => exact setLoc_stopping 2 .atHl 16 s
  | set2A => exact setLoc_stopping 2 (.reg .a) 8 s
  | set3B => exact setLoc_stopping 3 (.reg .b) 8 s
  | set3C => exact setLoc_stopping 3 (.reg .c) 8 s
  | set3D => exact setLoc_stopping 3 (.reg .d) 8 s
  | set3E => exact setLoc_stopping 3 (.reg .e) 8 s
  | set3H => exact setLoc_stopping 3 (.reg .h) 8 s
  | set3L => exact setLoc_stopping 3 (.reg .l) 8 s
  | set3IndHl => exact setLoc_stopping 3 .atHl 16 s
  | set3A => exact setLoc_stopping 3 (.reg .a) 8 s
  | set4B => exact setLoc_stopping 4 (.reg .b) 8 s
  | set4C => exact setLoc_stopping 4 (.reg .c) 8 s
  | set4D => exact setLoc_stopping 4 (.reg .d) 8 s
  | set4E => exact setLoc_stopping 4 (.reg .e) 8 s
  | set4H => exact setLoc_stopping 4 (.reg .h) 8 s
  | set4L => exact setLoc_stopping 4 (.reg .l) 8 s
  | set4IndHl => exact setLoc_stopping 4 .atHl 16 s
  | set4A => exact setLoc_stopping 4 (.reg .a) 8 s
  | set5B => exact setLoc_stopping 5 (.reg .b) 8 s
  | set5C => exact setLoc_stopping 5 (.reg .c) 8 s
  | set5D => exact setLoc_stopping 5 (.reg .d) 8 s
  | set5E => exact setLoc_stopping 5 (.reg .e) 8 s
  | set5H => exact setLoc_stopping 5 (.reg .h) 8 s
  | set5L => exact setLoc_stopping 5 (.reg .l) 8 s
  | set5IndHl => exact setLoc_stopping 5 .atHl 16 s
  | set5A => exact setLoc_stopping 5 (.reg .a) 8 s
  | set6B => exact setLoc_stopping 6 (.reg .b) 8 s
  | set6C => exact setLoc_stopping 6 (.reg .c) 8 s
  | set6D => exact setLoc_stopping 6 (.reg .d) 8 s
  | set6E => exact setLoc_stopping 6 (.reg .e) 8 s
  | set6H => exact setLoc_stopping 6 (.reg .h) 8 s
  | set6L => exact setLoc_stopping 6 (.reg .l) 8 s
  | set6IndHl => exact setLoc_stopping 6 .atHl 16 s
  | set6A => exact setLoc_stopping 6 (.reg .a) 8 s
  | set7B => exact setLoc_stopping 7 (.reg .b) 8 s
  | set7C => exact setLoc_stopping 7 (.reg .c) 8 s
  | set7D => exact setLoc_stopping 7 (.reg .d) 8 s
  | set7E => exact setLoc_stopping 7 (.reg .e) 8 s
  | set7H => exact setLoc_stopping 7 (.reg .h) 8 s
  | set7L => exact setLoc_stopping 7 (.reg .l) 8 s
  | set7IndHl => exact setLoc_stopping 7 .atHl 16 s
  | set7A => exact setLoc_stopping 7 (.reg .a) 8 s

/-- The fetch and the instruction fetched do not look at the flag. -/
theorem fetchInstr_stopping (s : State) : Stopping (fetchInstr s.stopping exec) (fetchInstr s exec) := by
  unfold fetchInstr
  refine fetch8_stopping fun v m => ?_
  cases Decode.primary v with
  | done i => exact exec_stopping i m
  | imm8 f => exact fetch8_stopping fun n m => exec_stopping (f n) m
  | imm16 f => exact fetch8_stopping fun _ _ => fetch8_stopping fun _ m => exec_stopping _ m

theorem ticks_stopping {tick : State → State} (h : ∀ s : State, tick s.stopping = (tick s).stopping) (n : Nat) (s : State) :
    ticks tick n s.stopping = (ticks tick n s).stopping := by
  induction n generalizing s with
  | zero => rfl
  | succ n ih => simp only [ticks, h, ih]

/-- The timer and the PPU do not look at the flag. -/
theorem advance_stopping (s : State) : advance s.stopping = (advance s).stopping := by
  unfold advance
  rw [show s.stopping.cycles = s.cycles from rfl, ticks_stopping (tick := timerTick) fun _ => rfl,
    ticks_stopping (tick := ppuTick) fun _ => rfl]

end Sys2Proof.Machine
end

