-- ==== Sys2Proof/Tests/Slice0.lean ====
section
/-! SUPPORT. The model's own tests: what WellFormed refuses; words written out bit by bit from spec/30_encoding.md, which
must decode to the instruction they stand for; one step each of the worked examples of spec/41 to spec/47 and of the
tables of spec/95_test_vectors.md; and, for each statement that has hypotheses, a state and operands that meet them. -/

namespace Sys2Proof.Tests

open Sys2Proof.Machine

-- The kernel evaluates these small theorems one after another: side by side they would want a thread each.
set_option Elab.async false

/-! ## Small states -/

/-- A machine with a blank cartridge, right after reset. -/
def base : State := { State.reset with cart := .romOnly blankImage }

/-- `base` with other CPU registers. -/
def cpu (g : Cpu → Cpu) : State := base.onCpu g

/-- With a byte of plain storage. -/
def poke (k : Nat) (v : Byte) (s : State) : State := { s with mem := s.mem.write k v }

/-- The instruction answers a next state that satisfies `p`. -/
def ran (i : Instr) (s : State) (p : State → Bool) : Bool :=
  match exec i s with
  | .next t => p t
  | .fault _ | .refused _ => false

/-- The step answers a next state that satisfies `p`. -/
def stepped (s : State) (p : State → Bool) : Bool :=
  match step s with
  | .next t => p t
  | .fault _ | .refused _ => false

/-- The step answers this fault. -/
def faulted (s : State) (f : Fault) : Bool :=
  match step s with
  | .fault g => g == f
  | .next _ | .refused _ => false

/-- The bytes decode to this instruction. -/
def reads (bytes : List Byte) (i : Instr) : Bool :=
  match decode bytes with
  | .ok j => j == i
  | .error _ => false

/-- The byte at an address. -/
def at8 (a : Word) (s : State) : Option Byte := (busRead a s).toOption

/-- A store of a byte to an address. -/
def store (a : Word) (v : Byte) (s : State) : State := ((busWrite a v s).toOption).getD s

/-- Bytes from 0xC000 on, with PC there. -/
def code (bytes : List Byte) (s : State) : State := placeBytes 0xC000 bytes (s.jump 0xC000)


/-! ## Well-formed instructions -/

theorem test_wf_refuses_undefined_with_a_defined_opcode : (Instr.undefined 0x00).wf = false := by decide
theorem test_wf_refuses_a_bare_prefix : (Instr.prefixCb 0x37).wf = false := by decide
theorem test_wf_takes_an_undefined_opcode : (Instr.undefined 0xFD).wf = true := by decide
theorem test_wf_takes_every_operand : (Instr.ldSpNn 0xFFFF).wf = true := by decide

/-! ## Words written out from the encodings of R94 to R106 -/

theorem test_decode_ld_r_r : reads [0b01000001] (.ldBC) = true := by decide +kernel
theorem test_decode_ld_r_n : reads [0b00111110, 0x5A] (.ldAN 0x5A) = true := by decide +kernel
theorem test_decode_ld_r_hl : reads [0b01101110] (.ldLIndHl) = true := by decide +kernel
theorem test_decode_ld_hl_r : reads [0b01110100] (.ldIndHlH) = true := by decide +kernel
theorem test_decode_ld_hl_n : reads [0b00110110, 0x7E] (.ldIndHlN 0x7E) = true := by decide +kernel
theorem test_decode_ld_a_hl_inc : reads [0b00101010] (.ldAIndHlInc) = true := by decide +kernel
theorem test_decode_ld_hl_dec_a : reads [0b00110010] (.ldIndHlDecA) = true := by decide +kernel
theorem test_decode_ld_a_bc : reads [0b00001010] (.ldAIndBc) = true := by decide +kernel
theorem test_decode_ld_de_a : reads [0b00010010] (.ldIndDeA) = true := by decide +kernel
theorem test_decode_ld_nn_a : reads [0b11101010, 0x50, 0xFF] (.ldIndNnA 0xFF50) = true := by decide +kernel
theorem test_decode_ldh_a_a8 : reads [0b11110000, 0x44] (.ldhAIndA8 0x44) = true := by decide +kernel
theorem test_decode_ld_c_a : reads [0b11100010] (.ldIndCA) = true := by decide +kernel
theorem test_decode_ld_rr_nn : reads [0b00100001, 0x34, 0x12] (.ldHlNn 0x1234) = true := by decide +kernel
theorem test_decode_ld_sp_hl : reads [0b11111001] (.ldSpHl) = true := by decide +kernel
theorem test_decode_ld_hl_sp_e : reads [0b11111000, 0xFF] (.ldHlSpE 0xFF) = true := by decide +kernel
theorem test_decode_ld_nn_sp : reads [0b00001000, 0x00, 0xC0] (.ldIndNnSp 0xC000) = true := by decide +kernel
theorem test_decode_push : reads [0b11010101] (.pushDe) = true := by decide +kernel
theorem test_decode_pop : reads [0b11110001] (.popAf) = true := by decide +kernel
theorem test_decode_alu_r : reads [0b10011100] (.sbcAH) = true := by decide +kernel
theorem test_decode_alu_hl : reads [0b10111110] (.cpAIndHl) = true := by decide +kernel
theorem test_decode_alu_n : reads [0b11101110, 0x0F] (.xorAN 0x0F) = true := by decide +kernel
theorem test_decode_inc_r : reads [0b00001100] (.incC) = true := by decide +kernel
theorem test_decode_dec_hl : reads [0b00110101] (.decIndHl) = true := by decide +kernel
theorem test_decode_daa : reads [0b00100111] (.daa) = true := by decide +kernel
theorem test_decode_cpl : reads [0b00101111] (.cpl) = true := by decide +kernel
theorem test_decode_scf : reads [0b00110111] (.scf) = true := by decide +kernel
theorem test_decode_ccf : reads [0b00111111] (.ccf) = true := by decide +kernel
theorem test_decode_add_hl_rr : reads [0b00111001] (.addHlSp) = true := by decide +kernel
theorem test_decode_inc_rr : reads [0b00010011] (.incDe) = true := by decide +kernel
theorem test_decode_dec_rr : reads [0b00001011] (.decBc) = true := by decide +kernel
theorem test_decode_add_sp_e : reads [0b11101000, 0x02] (.addSpE 0x02) = true := by decide +kernel
theorem test_decode_rlca : reads [0b00000111] (.rlca) = true := by decide +kernel
theorem test_decode_rra : reads [0b00011111] (.rra) = true := by decide +kernel
theorem test_decode_shift : reads [0b11001011, 0b00101111] (.sraA) = true := by decide +kernel
theorem test_decode_shift_hl : reads [0b11001011, 0b00110110] (.swapIndHl) = true := by decide +kernel
theorem test_decode_bit : reads [0b11001011, 0b01111100] (.bit7H) = true := by decide +kernel
theorem test_decode_res : reads [0b11001011, 0b10000110] (.res0IndHl) = true := by decide +kernel
theorem test_decode_set : reads [0b11001011, 0b11011110] (.set3IndHl) = true := by decide +kernel
theorem test_decode_jp : reads [0b11000011, 0x50, 0x01] (.jpNn 0x0150) = true := by decide +kernel
theorem test_decode_jp_cc : reads [0b11011010, 0x00, 0x20] (.jpCNn 0x2000) = true := by decide +kernel
theorem test_decode_jp_hl : reads [0b11101001] (.jpHl) = true := by decide +kernel
theorem test_decode_jr : reads [0b00011000, 0xFB] (.jrE 0xFB) = true := by decide +kernel
theorem test_decode_jr_cc : reads [0b00100000, 0xFC] (.jrNZE 0xFC) = true := by decide +kernel
theorem test_decode_call : reads [0b11001101, 0x34, 0x12] (.callNn 0x1234) = true := by decide +kernel
theorem test_decode_call_cc : reads [0b11010100, 0x00, 0x20] (.callNCNn 0x2000) = true := by decide +kernel
theorem test_decode_ret : reads [0b11001001] (.ret) = true := by decide +kernel
theorem test_decode_ret_cc : reads [0b11001000] (.retZ) = true := by decide +kernel
theorem test_decode_reti : reads [0b11011001] (.reti) = true := by decide +kernel
theorem test_decode_rst : reads [0b11101111] (.rst28) = true := by decide +kernel
theorem test_decode_nop : reads [0b00000000] (.nop) = true := by decide +kernel
theorem test_decode_halt : reads [0b01110110] (.halt) = true := by decide +kernel
theorem test_decode_stop : reads [0b00010000] (.stop) = true := by decide +kernel
theorem test_decode_di : reads [0b11110011] (.di) = true := by decide +kernel
theorem test_decode_ei : reads [0b11111011] (.ei) = true := by decide +kernel
theorem test_decode_undefined : reads [0b11011101] (.undefined 0xDD) = true := by decide +kernel
theorem test_decode_refuses_no_bytes : decode [] = .error .noOpcode := rfl
theorem test_decode_refuses_a_missing_operand : decode [0x3E] = .error .operandMissing := rfl
theorem test_decode_refuses_half_an_operand_word : decode [0xC3, 0x50] = .error .operandMissing := rfl
theorem test_table_word_three_bytes : decodeTableWord 24 0x1234C3 = some (.jpNn 0x1234) := by decide +kernel
theorem test_table_word_without_operands : decodeTableWord 8 0xC3 = some (.jpNn 0x0000) := by decide +kernel
theorem test_table_word_extended : decodeTableWord 16 0xCB37 = some .swapA := by decide +kernel

/-! ## One instruction each, from the worked examples -/

theorem test_ld_b_c : ran (.ldBC) (cpu fun c => { c with b := 0x12, c := 0x34 }) (fun t => t.cpu.b == 0x34 && t.cpu.c == 0x34 && t.cycles == 4) = true := by decide +kernel
theorem test_ld_a_n : ran (.ldAN 0x5A) (base) (fun t => t.cpu.a == 0x5A && t.cycles == 8) = true := by decide +kernel
theorem test_ld_h_from_hl_reads_first : ran (.ldHIndHl) (poke 0xC000 0x99 (cpu fun c => { c with h := 0xC0, l := 0x00 })) (fun t => t.cpu.h == 0x99 && t.cpu.l == 0x00) = true := by decide +kernel
theorem test_ld_hl_h : ran (.ldIndHlH) (cpu fun c => { c with h := 0xC1, l := 0x23 }) (fun t => at8 0xC123 t == some 0xC1) = true := by decide +kernel
theorem test_ld_a_hl_inc_wraps_at_ie : ran (.ldAIndHlInc) ({ (cpu fun c => { c with h := 0xFF, l := 0xFF }) with irq := ⟨0x1F, 0⟩ }) (fun t => t.cpu.a == 0x1F && t.cpu.hl == 0x0000) = true := by decide +kernel
theorem test_ld_a_hl_dec : ran (.ldAIndHlDec) (poke 0xC001 0x22 (cpu fun c => { c with h := 0xC0, l := 0x01 })) (fun t => t.cpu.a == 0x22 && t.cpu.hl == 0xC000) = true := by decide +kernel
theorem test_ld_hl_inc_a : ran (.ldIndHlIncA) (cpu fun c => { c with a := 0x33, h := 0x98, l := 0x00 }) (fun t => at8 0x9800 t == some 0x33 && t.cpu.hl == 0x9801) = true := by decide +kernel
theorem test_ld_hl_dec_a : ran (.ldIndHlDecA) (cpu fun c => { c with a := 0x07, h := 0x9F, l := 0xFF }) (fun t => at8 0x9FFF t == some 0x07 && t.cpu.hl == 0x9FFE) = true := by decide +kernel
theorem test_ld_a_de_reads_ly : ran (.ldAIndDe) ({ (cpu fun c => { c with d := 0xFF, e := 0x44 }) with ppu := { base.ppu with ly := 0x90 } }) (fun t => t.cpu.a == 0x90) = true := by decide +kernel
theorem test_ld_de_a_through_the_echo : ran (.ldIndDeA) (cpu fun c => { c with a := 0xAA, d := 0xE0, e := 0x00 }) (fun t => at8 0xC000 t == some 0xAA) = true := by decide +kernel
theorem test_ldh_tac : ran (.ldhIndA8A 0x07) (cpu fun c => { c with a := 0x05 }) (fun t => t.timer.tac == 0x05 && t.cycles == 12) = true := by decide +kernel
theorem test_ld_c_a_bgp : ran (.ldIndCA) (cpu fun c => { c with a := 0xE4, c := 0x47 }) (fun t => t.ppu.bgp == 0xE4) = true := by decide +kernel
theorem test_ld_nn_a_boot_latch : ran (.ldIndNnA 0xFF50) (base) (fun t => t.boot.disabled && t.boot.reg == 0x01) = true := by decide +kernel
theorem test_ld_hl_nn : ran (.ldHlNn 0x1234) (base) (fun t => t.cpu.h == 0x12 && t.cpu.l == 0x34) = true := by decide +kernel
theorem test_ld_hl_sp_e_negative : ran (.ldHlSpE 0xFF) (cpu fun c => { c with sp := 0x0001 }) (fun t => t.cpu.hl == 0x0000 && t.cpu.f == 0x30 && t.cpu.sp == 0x0001) = true := by decide +kernel
theorem test_ld_nn_sp : ran (.ldIndNnSp 0xC000) (cpu fun c => { c with sp := 0xFFF8 }) (fun t => at8 0xC000 t == some 0xF8 && at8 0xC001 t == some 0xFF && t.cycles == 20) = true := by decide +kernel
theorem test_push_bc : ran (.pushBc) (cpu fun c => { c with sp := 0xFFFE, b := 0x12, c := 0x34 }) (fun t => t.cpu.sp == 0xFFFC && at8 0xFFFD t == some 0x12 && at8 0xFFFC t == some 0x34) = true := by decide +kernel
theorem test_pop_af_masks : ran (.popAf) (poke 0xFFFD 0x12 (poke 0xFFFC 0x3F (cpu fun c => { c with sp := 0xFFFC }))) (fun t => t.cpu.a == 0x12 && t.cpu.f == 0x30 && t.cpu.sp == 0xFFFE) = true := by decide +kernel
theorem test_add : ran (.addAB) (cpu fun c => { c with a := 0x3A, b := 0xC6 }) (fun t => t.cpu.a == 0x00 && t.cpu.f == 0xB0) = true := by decide +kernel
theorem test_adc : ran (.adcAE) (cpu fun c => { c with a := 0xE1, e := 0x0F, f := 0x10 }) (fun t => t.cpu.a == 0xF1 && t.cpu.f == 0x20) = true := by decide +kernel
theorem test_sub_half_borrow : ran (.subAN 0x0F) (cpu fun c => { c with a := 0x3E }) (fun t => t.cpu.a == 0x2F && t.cpu.f == 0x60) = true := by decide +kernel
theorem test_sbc : ran (.sbcAH) (cpu fun c => { c with a := 0x3B, h := 0x2A, f := 0x10 }) (fun t => t.cpu.a == 0x10 && t.cpu.f == 0x40) = true := by decide +kernel
theorem test_sbc_a_a_with_carry : ran (.sbcAA) (cpu fun c => { c with f := 0x10 }) (fun t => t.cpu.a == 0xFF && t.cpu.f == 0x70) = true := by decide +kernel
theorem test_cp : ran (.cpAN 0x40) (cpu fun c => { c with a := 0x3C }) (fun t => t.cpu.a == 0x3C && t.cpu.f == 0x50) = true := by decide +kernel
theorem test_and : ran (.andAN 0x38) (cpu fun c => { c with a := 0x5A }) (fun t => t.cpu.a == 0x18 && t.cpu.f == 0x20) = true := by decide +kernel
theorem test_xor : ran (.xorAN 0x0F) (cpu fun c => { c with a := 0xFF }) (fun t => t.cpu.a == 0xF0 && t.cpu.f == 0x00) = true := by decide +kernel
theorem test_or : ran (.orAN 0x00) (cpu fun c => { c with a := 0x00 }) (fun t => t.cpu.a == 0x00 && t.cpu.f == 0x80) = true := by decide +kernel
theorem test_inc_keeps_carry : ran (.incB) (cpu fun c => { c with b := 0x0F, f := 0x10 }) (fun t => t.cpu.b == 0x10 && t.cpu.f == 0x30) = true := by decide +kernel
theorem test_inc_hl_divider : ran (.incIndHl) (cpu fun c => { c with h := 0xFF, l := 0x04 }) (fun t => t.timer.div == 0x0000 && t.cycles == 12) = true := by decide +kernel
theorem test_dec : ran (.decB) (cpu fun c => { c with b := 0x01, f := 0x00 }) (fun t => t.cpu.b == 0x00 && t.cpu.f == 0xC0) = true := by decide +kernel
theorem test_daa_both_adjustments : ran (.daa) (cpu fun c => { c with a := 0x9A, f := 0x00 }) (fun t => t.cpu.a == 0x00 && t.cpu.f == 0x90) = true := by decide +kernel
theorem test_daa_after_addition : ran (.daa) (cpu fun c => { c with a := 0x7D, f := 0x00 }) (fun t => t.cpu.a == 0x83 && t.cpu.f == 0x00) = true := by decide +kernel
theorem test_cpl : ran (.cpl) (cpu fun c => { c with a := 0x35, f := 0x00 }) (fun t => t.cpu.a == 0xCA && t.cpu.f == 0x60) = true := by decide +kernel
theorem test_scf : ran (.scf) (cpu fun c => { c with f := 0xE0 }) (fun t => t.cpu.f == 0x90) = true := by decide +kernel
theorem test_ccf : ran (.ccf) (cpu fun c => { c with f := 0x90 }) (fun t => t.cpu.f == 0x80) = true := by decide +kernel
theorem test_add_hl_bc : ran (.addHlBc) (cpu fun c => { c with h := 0x8A, l := 0x23, b := 0x06, c := 0x05, f := 0x80 }) (fun t => t.cpu.hl == 0x9028 && t.cpu.f == 0xA0) = true := by decide +kernel
theorem test_add_hl_hl : ran (.addHlHl) (cpu fun c => { c with h := 0x8A, l := 0x23, f := 0x00 }) (fun t => t.cpu.hl == 0x1446 && t.cpu.f == 0x30) = true := by decide +kernel
theorem test_inc_de_carries : ran (.incDe) (cpu fun c => { c with d := 0x00, e := 0xFF }) (fun t => t.cpu.de == 0x0100 && t.cpu.f == 0xB0) = true := by decide +kernel
theorem test_dec_bc : ran (.decBc) (cpu fun c => { c with b := 0x01, c := 0x00 }) (fun t => t.cpu.bc == 0x00FF) = true := by decide +kernel
theorem test_add_sp_negative : ran (.addSpE 0x80) (cpu fun c => { c with sp := 0xD000 }) (fun t => t.cpu.sp == 0xCF80 && t.cpu.f == 0x00) = true := by decide +kernel
theorem test_rlca : ran (.rlca) (cpu fun c => { c with a := 0x85 }) (fun t => t.cpu.a == 0x0B && t.cpu.f == 0x10) = true := by decide +kernel
theorem test_rrca : ran (.rrca) (cpu fun c => { c with a := 0x3B }) (fun t => t.cpu.a == 0x9D && t.cpu.f == 0x10) = true := by decide +kernel
theorem test_rla : ran (.rla) (cpu fun c => { c with a := 0x95, f := 0x10 }) (fun t => t.cpu.a == 0x2B && t.cpu.f == 0x10) = true := by decide +kernel
theorem test_rra_clears_z : ran (.rra) (cpu fun c => { c with a := 0x01, f := 0x80 }) (fun t => t.cpu.a == 0x00 && t.cpu.f == 0x10) = true := by decide +kernel
theorem test_rlc_b : ran (.rlcB) (cpu fun c => { c with b := 0x85 }) (fun t => t.cpu.b == 0x0B && t.cpu.f == 0x10 && t.cycles == 8) = true := by decide +kernel
theorem test_rrc_c : ran (.rrcC) (cpu fun c => { c with c := 0x01 }) (fun t => t.cpu.c == 0x80 && t.cpu.f == 0x10) = true := by decide +kernel
theorem test_rl_l : ran (.rlL) (cpu fun c => { c with l := 0x80, f := 0x00 }) (fun t => t.cpu.l == 0x00 && t.cpu.f == 0x90) = true := by decide +kernel
theorem test_rr_a : ran (.rrA) (cpu fun c => { c with a := 0x01, f := 0x00 }) (fun t => t.cpu.a == 0x00 && t.cpu.f == 0x90) = true := by decide +kernel
theorem test_sla_d : ran (.slaD) (cpu fun c => { c with d := 0x80 }) (fun t => t.cpu.d == 0x00 && t.cpu.f == 0x90) = true := by decide +kernel
theorem test_sra_a : ran (.sraA) (cpu fun c => { c with a := 0x8A }) (fun t => t.cpu.a == 0xC5 && t.cpu.f == 0x00) = true := by decide +kernel
theorem test_swap_a : ran (.swapA) (cpu fun c => { c with a := 0xF0, f := 0x10 }) (fun t => t.cpu.a == 0x0F && t.cpu.f == 0x00) = true := by decide +kernel
theorem test_srl_a : ran (.srlA) (cpu fun c => { c with a := 0xFF }) (fun t => t.cpu.a == 0x7F && t.cpu.f == 0x10) = true := by decide +kernel
theorem test_bit_7_h_keeps_carry : ran (.bit7H) (cpu fun c => { c with h := 0x80, f := 0x10 }) (fun t => t.cpu.f == 0x30) = true := by decide +kernel
theorem test_res_7_a : ran (.res7A) (cpu fun c => { c with a := 0xFF }) (fun t => t.cpu.a == 0x7F && t.cpu.f == 0xB0) = true := by decide +kernel
theorem test_set_3_hl : ran (.set3IndHl) (cpu fun c => { c with h := 0xC0, l := 0x00 }) (fun t => at8 0xC000 t == some 0x08 && t.cycles == 16) = true := by decide +kernel
theorem test_prefix : ran (.prefixCb 0x37) (cpu fun c => { c with a := 0x12 }) (fun t => t.cpu.a == 0x21 && t.cycles == 8) = true := by decide +kernel
theorem test_jp_nz_not_taken : ran (.jpNZNn 0x2000) (cpu fun c => { c with f := 0x80, pc := 0x0203 }) (fun t => t.cpu.pc == 0x0203 && t.cycles == 12) = true := by decide +kernel
theorem test_jr_wraps : ran (.jrE 0x7F) (cpu fun c => { c with pc := 0xFFF2 }) (fun t => t.cpu.pc == 0x0071) = true := by decide +kernel
theorem test_jr_nz_back : ran (.jrNZE 0xFC) (cpu fun c => { c with f := 0x00, pc := 0x0107 }) (fun t => t.cpu.pc == 0x0103 && t.cycles == 12) = true := by decide +kernel
theorem test_call : ran (.callNn 0x1234) (cpu fun c => { c with sp := 0xFFFE, pc := 0x0103 }) (fun t => at8 0xFFFD t == some 0x01 && at8 0xFFFC t == some 0x03 && t.cpu.pc == 0x1234) = true := by decide +kernel
theorem test_call_nc_not_taken : ran (.callNCNn 0x2000) (cpu fun c => { c with f := 0x10, sp := 0xD000, pc := 0x0303 }) (fun t => t.cpu.pc == 0x0303 && t.cpu.sp == 0xD000 && t.cycles == 12) = true := by decide +kernel
theorem test_ret_z : ran (.retZ) (poke 0xFFFD 0x02 (cpu fun c => { c with f := 0x80, sp := 0xFFFC })) (fun t => t.cpu.pc == 0x0200 && t.cpu.sp == 0xFFFE && t.cycles == 20) = true := by decide +kernel
theorem test_reti : ran (.reti) (poke 0xFFFD 0x01 (poke 0xFFFC 0x50 (cpu fun c => { c with sp := 0xFFFC }))) (fun t => t.cpu.pc == 0x0150 && t.cpu.ime && t.cycles == 16) = true := by decide +kernel
theorem test_rst_28 : ran (.rst28) (cpu fun c => { c with sp := 0xFFFE, pc := 0x0201 }) (fun t => at8 0xFFFD t == some 0x02 && at8 0xFFFC t == some 0x01 && t.cpu.pc == 0x0028) = true := by decide +kernel
theorem test_halt : ran (.halt) (base) (fun t => t.cpu.halted && t.cycles == 4) = true := by decide +kernel
theorem test_stop_skips_a_byte : ran (.stop) (cpu fun c => { c with pc := 0x0151 }) (fun t => t.cpu.stopped && t.cpu.pc == 0x0152) = true := by decide +kernel
theorem test_ei : ran (.ei) (base) (fun t => t.cpu.eiPending == 2 && !t.cpu.ime) = true := by decide +kernel
theorem test_di : ran (.di) (cpu fun c => { c with ime := true }) (fun t => t.cpu.diPending == 2 && t.cpu.ime) = true := by decide +kernel
theorem test_undefined_is_logged : ran (.undefined 0xDD) (cpu fun c => { c with pc := 0x0201 }) (fun t => t.undefLog == [(0xDD, 0x0200)] && t.cycles == 4) = true := by decide +kernel

/-! ## One step -/

theorem test_reset_without_a_cartridge_faults : faulted State.reset .noCartridge = true := by decide +kernel
theorem test_fetch_word_runs_from_reset : stepped (State.reset.withFetchWord 16 0x5A3E) (fun t => t.cpu.a == 0x5A && t.cpu.pc == 0x0102 && t.cycles == 8) = true := by decide +kernel
theorem test_fetch_word_runs_an_extended_row : stepped (State.reset.withFetchWord 16 0xCB37) (fun t => t.cpu.a == 0x10 && t.cpu.pc == 0x0102) = true := by decide +kernel
theorem test_nop_advances_the_units : stepped (code [0x00] base) (fun t => t.timer.div == 0xAB04 && t.ppu.dot == 4 && t.cpu.pc == 0xC001) = true := by decide +kernel
theorem test_stop_fetches_one_byte : stepped (code [0x10, 0xFF] base) (fun t => t.cpu.stopped && t.cpu.pc == 0xC002) = true := by decide +kernel
theorem test_dispatch_runs_the_first_instruction : stepped { (cpu fun c => { c with ime := true, pc := 0x0150 }) with irq := ⟨0x1F, 0x14⟩ } (fun t => t.cpu.pc == 0x0051 && t.cycles == 24 && !t.cpu.ime && t.irq.ifr == 0x10 && at8 0xFFFD t == some 0x01 && at8 0xFFFC t == some 0x50) = true := by decide +kernel
theorem test_halted_without_an_interrupt : stepped (cpu fun c => { c with halted := true }) (fun t => t.cpu.halted && t.cpu.pc == 0x0100 && t.cycles == 4) = true := by decide +kernel
theorem test_halted_wakes_without_ime : stepped { (code [0x00] (cpu fun c => { c with halted := true })) with irq := ⟨0x04, 0x04⟩ } (fun t => !t.cpu.halted && t.cpu.pc == 0xC001 && t.irq.ifr == 0x04) = true := by decide +kernel
theorem test_vblank_is_requested_once : stepped { (code [0x00] base) with ppu := { base.ppu with ly := 143, dot := 455 } } (fun t => t.irq.ifr == 0x01 && t.ppu.ly == 144 && t.ppu.stat.extractLsb' 0 2 == 0b01) = true := by decide +kernel
theorem test_a_frame_ends : stepped { (code [0x00] base) with ppu := { base.ppu with ly := 153, dot := 455 } } (fun t => t.frameDone && t.ppu.ly == 0) = true := by decide +kernel
theorem test_tima_overflow_reloads : stepped { (code [0x00] base) with timer := ⟨0x00FF, true, 0xFF, 0x23, 0x07⟩ } (fun t => t.timer.tima == 0x23 && t.irq.ifr == 0x04) = true := by decide +kernel
theorem test_first_pixels_at_dot_87 : ((ticks ppuTick 87 base).ppu.fifo.length, (ticks ppuTick 87 base).ppu.lx) = (7, 1) := by decide +kernel

/-! ## States and operands that meet the statements' hypotheses

One theorem a statement, named after it; a statement with several clauses has a witness for each. -/

/-- HL at the first byte of work RAM, SP inside it, and a pair of bytes there. -/
def wram : State :=
  poke 0xD000 0x34 (poke 0xD001 0x12 (cpu fun c => { c with h := 0xC0, l := 0x00, b := 0xC0, c := 0x80, d := 0xFE, e := 0x9F, sp := 0xD000 }))

/-- An interrupt is pending and IME is on. -/
def pendingIrq : State := { (cpu fun c => { c with ime := true, pc := 0x0150 }) with irq := ⟨0x1F, 0x14⟩ }

/-- Byte reads that succeed, for a register, the byte at HL, an immediate. -/
theorem wram_reads : locHolds (.reg .b) wram 0xC0 ∧ locHolds .atHl wram 0x00 ∧ aluSrcHolds (.imm 0xFF) wram 0xFF :=
  ⟨rfl, rfl, rfl⟩

theorem wram_canonical : wram.mem.wf = true := by decide +kernel

theorem witness_DecodeOfEncodeIsTheInstruction :
    (Instr.ldSpNn 0xFFFF).wf = true ∧ (Instr.undefined 0xFD).wf = true ∧ Instr.set7A.wf = true := ⟨rfl, rfl, rfl⟩

theorem witness_StepRunsTheDecodedInstruction :
    (Instr.jpNn 0x1234).wf = true ∧ (awake (code [0xC3, 0x34, 0x12] base)).cpu.ime = false ∧
      (awake (code [0xC3, 0x34, 0x12] base)).cpu.halted = false ∧
      (awake (code [0xC3, 0x34, 0x12] base)).cpu.stopped = false ∧
      fetchesAs (.jpNn 0x1234) (awake (code [0xC3, 0x34, 0x12] base)) :=
  ⟨rfl, rfl, rfl, rfl, fun k hk => by
    have hk : k < 3 := hk
    interval_cases k <;> rfl⟩

/-- IME on and the stopped flag set, under `FlagOnly`. -/
def stoppedCpu : State := cpu fun c => { c with ime := true, stopped := true }

/-- The other quiet case: IME on, nothing pending; and STOP, whose second byte is not fetched, with the flag set. -/
theorem witness_StepRunsTheDecodedInstruction_stop :
    Instr.stop.wf = true ∧ (awake (code [0x10] stoppedCpu)).irq.pending = 0 ∧
      (awake (code [0x10] stoppedCpu)).cpu.halted = false ∧ stoppedCpu.settings.stopMode = .flagOnly ∧
      fetchesAs .stop (awake (code [0x10] stoppedCpu)) :=
  ⟨rfl, rfl, rfl, rfl, fun k hk => by
    have hk : k < 1 := hk
    interval_cases k; rfl⟩

theorem witness_StepTakesTheLowestInterrupt :
    (awake pendingIrq).cpu.ime = true ∧ isLowestPending 2 (awake pendingIrq).irq.pending ∧
      ∃ m n, busWrite ((awake pendingIrq).cpu.sp - 1) (awake pendingIrq).cpu.pc.hi
          { awake pendingIrq with
            irq := { (awake pendingIrq).irq with ifr := (awake pendingIrq).irq.ifr &&& ~~~(1#8 <<< 2) }
            cycles := (awake pendingIrq).settings.intDispatchCycles } = .ok m ∧
        busWrite ((awake pendingIrq).cpu.sp - 2) (awake pendingIrq).cpu.pc.lo m = .ok n :=
  ⟨rfl, ⟨by omega, rfl, by decide +kernel⟩, _, _, rfl, rfl⟩

/-- The first and the last interrupt can be the lowest pending one. -/
theorem witness_StepTakesTheLowestInterrupt_ends : isLowestPending 0 0x1F ∧ isLowestPending 4 0x10 :=
  ⟨⟨by omega, rfl, by omega⟩, by omega, rfl, by decide +kernel⟩

/-- The handler's first instruction can be fetched; and, under `HaltUntilJoypad`, the CPU can still be stopped. -/
theorem witness_StepTakesTheLowestInterrupt_phase3 :
    fetchesAs .nop ({ pendingIrq with cpu := { pendingIrq.cpu with ime := false, sp := 0xFFFC, pc := 0x0050 } } : State) ∧
      Instr.nop.wf = true ∧
      (awake { pendingIrq with
        cpu := { pendingIrq.cpu with stopped := true }
        irq := ⟨0x1F, 0x04⟩
        settings := { pendingIrq.settings with stopMode := .haltUntilJoypad } }).cpu.stopped = true :=
  ⟨fun k hk => by
    have hk : k < 1 := hk
    interval_cases k; rfl, rfl, rfl⟩

/-- Stopped under `HaltUntilJoypad`, with these interrupt registers. -/
def frozen (irq : Irq) : State :=
  { base with
    cpu := { base.cpu with stopped := true }
    irq := irq
    settings := { base.settings with stopMode := .haltUntilJoypad } }

theorem test_stopped_cpu_idles : stepped (frozen ⟨0x04, 0x04⟩) (fun t => t.cpu.stopped && t.cpu.pc == 0x0100 && t.cycles == 4) = true := by decide +kernel
theorem test_joypad_ends_stop : stepped (frozen ⟨0x00, 0x10⟩) (fun t => !t.cpu.stopped && t.cpu.pc == 0x0101) = true := by decide +kernel

theorem witness_HaltedOrStoppedStepFetchesNothing :
    pendingIrq.irq.pending ≠ 0 ∧ (cpu fun c => { c with halted := true }).irq.pending = 0 ∧
      (cpu fun c => { c with halted := true }).cpu.halted = true := ⟨by decide +kernel, rfl, rfl⟩

/-- STOP with the other interrupts pending, and with the joypad's alone; and `FlagOnly`. -/
theorem witness_HaltedOrStoppedStepFetchesNothing_stop :
    (frozen ⟨0x0F, 0x0F⟩).settings.stopMode = .haltUntilJoypad ∧ (frozen ⟨0x0F, 0x0F⟩).cpu.stopped = true ∧
      (frozen ⟨0x0F, 0x0F⟩).irq.ifr.getLsbD 4 = false ∧ (awake (frozen ⟨0x0F, 0x0F⟩)).cpu.ime = false ∧
      (frozen ⟨0x00, 0x10⟩).irq.ifr.getLsbD 4 = true ∧ stoppedCpu.settings.stopMode = .flagOnly ∧
      stepped (code [0x00] stoppedCpu) (fun t => t.cpu.stopped && t.cpu.pc == 0xC001) = true :=
  ⟨rfl, rfl, rfl, rfl, rfl, rfl, by decide +kernel⟩

theorem witness_EiAndDiTakeTwoSteps :
    ∃ t m t' m', exec .ei base = .next t ∧ base.cpu.diPending = 0 ∧ exec .nop (imeCommit t) = .next m ∧
      exec .di base = .next t' ∧ base.cpu.eiPending = 0 ∧ exec .ei (imeCommit t') = .next m' :=
  ⟨_, _, _, _, rfl, rfl, rfl, rfl, rfl, rfl⟩

theorem witness_EveryInstructionCompletes :
    base.cart.present = true ∧ (∀ op, Instr.undefined 0xD3 = .undefined op → op ∈ undefinedOpcodes) :=
  ⟨rfl, fun op h => by cases h; decide⟩

theorem witness_OnlyAnAbsentCartridgeStops :
    exec (.ldAIndNn 0x7FFF) State.reset = .fault .noCartridge ∧ faulted State.reset .noCartridge = true :=
  ⟨rfl, by decide +kernel⟩

theorem witness_CartridgeMachineNeverStops : base.cart.present = true := rfl

theorem base_ok : base.Ok where
  flagsLow := rfl
  mem := rfl
  fb := rfl
  dot := by decide
  ly := by decide
  lx := by decide
  fifo := by decide
  idle := fun _ => ⟨rfl, rfl, rfl, rfl⟩

theorem witness_EveryStepKeepsTheInvariant : base.Ok ∧ stepped base (fun _ => true) = true := ⟨base_ok, by decide +kernel⟩

theorem witness_HostRunsKeepTheInvariant :
    base.Ok ∧ ∃ t, runHost [.setInput 0xE 0xF, .setInput 0xF 0xF] base = .next t := ⟨base_ok, _, rfl⟩

theorem witness_OnlyTheNamedInstructionsWriteControl :
    ∃ t u v, exec .nop base = .next t ∧ exec .reti wram = .next u ∧ exec .halt base = .next v := ⟨_, _, _, rfl, rfl, rfl⟩

theorem witness_InstructionsKeepTheUnits : ∃ t, exec .ldIndHlA wram = .next t := ⟨_, rfl⟩

theorem witness_StepsKeepTheParameters :
    stepped base (fun _ => true) = true ∧
      stepped { base with boot := ⟨true, true, 0x01⟩ } (fun t => t.boot.disabled) = true :=
  ⟨by decide +kernel, by decide +kernel⟩

theorem witness_StoreChangesOnlyItsByte :
    wram.mem.wf = true ∧ (∃ m, busWrite 0xC000 0x55 wram = .ok m) ∧ storageKey 0xC000 = some 0xC000 ∧
      storageKey 0xE000 = some 0xC000 ∧ storageKey 0xFDFF = some 0xDDFF ∧ storageKey 0xFFFE = some 0xFFFE ∧
      storageKey 0xFF7F = some 0xFF7F := ⟨wram_canonical, ⟨_, rfl⟩, rfl, rfl, rfl, rfl, rfl⟩

/-- Addresses at the ends of the ranges of plain storage, and just outside them. -/
theorem witness_StoreChangesOnlyItsByte_ranges :
    isRam 0x8000 ∧ isRam 0x9FFF ∧ ¬ isRam 0xA000 ∧ isRam 0xFE9F ∧ ¬ isRam 0xFEA0 ∧ ¬ isRam 0xFFFF ∧
      isUnnamedIo 0xFF03 ∧ isUnnamedIo 0xFF3F ∧ ¬ isUnnamedIo 0xFF40 ∧ ¬ isUnnamedIo 0xFF50 ∧ isUnnamedIo 0xFF7F ∧
      isSoundRegister 0xFF10 ∧ isSoundRegister 0xFF26 ∧ storageKey 0xFEA0 = none ∧ storageKey 0xFF50 = none := by
  unfold isRam isUnnamedIo isSoundRegister
  refine ⟨by omega, by omega, by omega, by omega, by omega, by omega, by omega, by omega, by omega, by omega, by omega,
    by omega, by omega, rfl, rfl⟩

/-- What a store at a boundary may and may not disturb. -/
theorem witness_StoreChangesOnlyItsByte_disturbs :
    ¬ disturbs 0xC000 0xC001 ∧ disturbs 0xC000 0xE000 ∧ ¬ disturbs 0xDE00 0xFE00 ∧ disturbs 0xFF50 0x00FF ∧
      ¬ disturbs 0xFF50 0x0100 ∧ ¬ disturbs 0x7FFF 0x8000 := by
  unfold disturbs; decide +kernel

theorem witness_EchoAndUnusableRegions :
    0xE000 ≤ (0xE000 : Word).toNat ∧ (0xFDFF : Word).toNat ≤ 0xFDFF ∧ 0xFEA0 ≤ (0xFEA0 : Word).toNat ∧
      (0xFEFF : Word).toNat ≤ 0xFEFF := by decide

/-- The latch set, with TIMA about to overflow: a DIV write, a TAC write that clears TAC[2], and one that selects a bit
holding 0 (bit 3 of 0x0200 + 1). -/
theorem witness_DivAndTacWritesCanCountAtOnce :
    ∃ s : State, s = { base with timer := ⟨0x0200, true, 0xFF, 0x00, 0x04⟩ } ∧ s.timer.lastAnd = true ∧
      (∃ m, busWrite 0xFF04 0x00 s = .ok m) ∧ (∃ m, busWrite 0xFF07 0x00 s = .ok m) ∧ (0x00 : Byte).getLsbD 2 = false ∧
      (∃ m, busWrite 0xFF07 0x05 s = .ok m) ∧ (s.timer.div + 1).getLsbD 3 = false :=
  ⟨_, rfl, rfl, ⟨_, rfl⟩, ⟨_, rfl⟩, rfl, ⟨_, rfl⟩, rfl⟩

theorem witness_BootOverlayUntilDisabled :
    (0x00FF : Word).toNat < 256 ∧ (Boot.atReset true).enabled = true ∧ (Boot.atReset true).disabled = false ∧
      (Boot.atReset false).enabled = false ∧ ((Boot.atReset true).write 0x01).disabled = true := by decide

/-- A cartridge of each kind, the ends of its ranges; images of 0x150 bytes, of type 0x00, 0x01 and 0x02. -/
theorem witness_CartridgeAccessAndPowerOn :
    base.cart = .romOnly blankImage ∧ base.boot.enabled = false ∧
      ({ base with cart := .banked blankImage [] } : State).cart = .banked blankImage [] ∧ State.reset.cart = .absent ∧
      (0x7FFF : Word).toNat < 0x8000 ∧ 0xA000 ≤ (0xBFFF : Word).toNat ∧ 0x100 ≤ (0x0100 : Word).toNat ∧ (⟨0x150, []⟩ : RomImage).byte 0x0147 = 0x00 ∧
      (⟨0x150, [(0x0147, 0x01)]⟩ : RomImage).byte 0x0147 = 0x01 ∧
      (⟨0x150, [(0x0147, 0x02)]⟩ : RomImage).byte 0x0147 = 0x02 :=
  ⟨rfl, rfl, rfl, rfl, by decide, by decide, by decide, rfl, rfl, rfl⟩

/-- Ends of the ranges that `P_RAM_INIT` fills, and contents it gives: the later pair counts. -/
theorem witness_ResetValues :
    isRam (0xFFFE : Word).toNat ∧ isUnnamedIo (0xFF7F : Word).toNat ∧
      (State.atReset { PowerOn.default with ramInit := [(0xC000, 0x11), (0xC000, 0x22)] } .absent).mem.read 0xC000 = 0x22 := by
  refine ⟨?_, ?_, rfl⟩
  · unfold isRam; decide
  · unfold isUnnamedIo; decide

theorem witness_LoadRegisterFromHl : busRead wram.cpu.hl wram = .ok 0x00 := rfl

theorem witness_StoreAtHl :
    wram.mem.wf = true ∧ (∃ m, busWrite wram.cpu.hl (wram.cpu.reg .h) wram = .ok m) ∧
      ∃ m, busWrite wram.cpu.hl 0x7E wram = .ok m := ⟨wram_canonical, ⟨_, rfl⟩, _, rfl⟩

theorem witness_AccumulatorThroughHlWithStep :
    busRead wram.cpu.hl wram = .ok 0x00 ∧ wram.mem.wf = true ∧ ∃ m, busWrite wram.cpu.hl wram.cpu.a wram = .ok m :=
  ⟨rfl, wram_canonical, _, rfl⟩

theorem witness_AccumulatorLoads :
    busRead (wram.cpu.b ++ wram.cpu.c) wram = .ok 0x00 ∧ busRead (wram.cpu.d ++ wram.cpu.e) wram = .ok 0x00 ∧
      busRead 0xD001 wram = .ok 0x12 ∧ busRead (BitVec.ofNat 16 (0xFF00 + (0xFF : Byte).toNat)) wram = .ok 0x00 ∧
      busRead (BitVec.ofNat 16 (0xFF00 + wram.cpu.c.toNat)) wram = .ok 0x00 := ⟨rfl, rfl, rfl, rfl, rfl⟩

theorem witness_AccumulatorStores :
    wram.mem.wf = true ∧ (∃ m, busWrite (wram.cpu.b ++ wram.cpu.c) wram.cpu.a wram = .ok m) ∧
      (∃ m, busWrite (wram.cpu.d ++ wram.cpu.e) wram.cpu.a wram = .ok m) ∧
      (∃ m, busWrite 0xFF50 wram.cpu.a wram = .ok m) ∧
      (∃ m, busWrite (BitVec.ofNat 16 (0xFF00 + (0x04 : Byte).toNat)) wram.cpu.a wram = .ok m) ∧
      ∃ m, busWrite (BitVec.ofNat 16 (0xFF00 + wram.cpu.c.toNat)) wram.cpu.a wram = .ok m :=
  ⟨wram_canonical, ⟨_, rfl⟩, ⟨_, rfl⟩, ⟨_, rfl⟩, ⟨_, rfl⟩, _, rfl⟩

theorem witness_StoreStackPointer :
    wram.mem.wf = true ∧ ∃ m n, busWrite 0xFFFF wram.cpu.sp.lo wram = .ok m ∧
      busWrite (0xFFFF + 1) wram.cpu.sp.hi m = .ok n := ⟨wram_canonical, _, _, rfl, rfl⟩

theorem witness_PushPair :
    wram.mem.wf = true ∧ ∃ m n, busWrite (wram.cpu.sp - 1) wram.cpu.a wram = .ok m ∧
      busWrite (wram.cpu.sp - 2) wram.cpu.f m = .ok n := ⟨wram_canonical, _, _, rfl, rfl⟩

theorem witness_PopPair : busRead wram.cpu.sp wram = .ok 0x34 ∧ busRead (wram.cpu.sp + 1) wram = .ok 0x12 := ⟨rfl, rfl⟩

theorem witness_AluOperandForms :
    aluSrcHolds (.loc (.reg .a)) wram 0x01 ∧ aluSrcHolds (.loc .atHl) wram 0x00 ∧ aluSrcHolds (.imm 0xFF) wram 0xFF :=
  ⟨rfl, rfl, rfl⟩

theorem witness_AddAndAdc : aluSrcHolds (.loc (.reg .l)) wram 0x00 ∧ aluSrcHolds (.loc .atHl) wram 0x00 := ⟨rfl, rfl⟩

theorem witness_SubSbcAndCp : aluSrcHolds (.loc (.reg .h)) wram 0xC0 ∧ aluSrcHolds (.imm 0x0F) wram 0x0F := ⟨rfl, rfl⟩

theorem witness_AndXorAndOr : aluSrcHolds (.loc (.reg .e)) wram 0x9F ∧ aluSrcHolds (.loc .atHl) wram 0x00 := ⟨rfl, rfl⟩

theorem witness_IncrementAndDecrement :
    wram.mem.wf = true ∧ locHolds (.reg .b) wram 0xC0 ∧ (∃ m, locWritten (.reg .b) 0xC1 wram m) ∧
      locHolds .atHl wram 0x00 ∧ (∃ m, locWritten .atHl 0x01 wram m) ∧ ∃ m, locWritten .atHl 0xFF wram m :=
  ⟨wram_canonical, rfl, ⟨_, rfl⟩, rfl, ⟨_, rfl⟩, _, rfl⟩

theorem witness_DecimalAdjustGivesBcd :
    (cpu fun c => { c with a := 0x99 }).cpu.a = BitVec.ofNat 8 (99 / 10 * 16 + 99 % 10) ∧
      ∃ t u t' u', exec (.addAN 0x99) (cpu fun c => { c with a := 0x99 }) = .next t ∧ exec .daa t = .next u ∧
        exec (.subAN 0x00) (cpu fun c => { c with a := 0x99 }) = .next t' ∧ exec .daa t' = .next u' :=
  ⟨rfl, _, _, _, _, rfl, rfl, rfl, rfl⟩

theorem witness_RotatesAndShifts :
    wram.mem.wf = true ∧ locHolds (.reg .d) wram 0xFE ∧ (∃ m, locWritten (.reg .d) 0x7F wram m) ∧
      locHolds .atHl wram 0x00 ∧ ∃ m, locWritten .atHl 0x00 wram m := ⟨wram_canonical, rfl, ⟨_, rfl⟩, rfl, _, rfl⟩

theorem witness_SingleBitOperations :
    wram.mem.wf = true ∧ locHolds .atHl wram 0x00 ∧
      (∀ k, k < 8 → (0x00 : Byte).getLsbD k = (decide (k ≠ (7 : Fin 8).val) && (0x00 : Byte).getLsbD k)) ∧
      (∀ k, k < 8 → (0x80 : Byte).getLsbD k = (decide (k = (7 : Fin 8).val) || (0x00 : Byte).getLsbD k)) ∧
      (∃ m, locWritten .atHl 0x00 wram m) ∧ ∃ m, locWritten .atHl 0x80 wram m :=
  ⟨wram_canonical, rfl, by decide +kernel, by decide +kernel, ⟨_, rfl⟩, _, rfl⟩

theorem witness_CallsAndRestarts :
    wram.mem.wf = true ∧ condHolds .c wram.cpu.flags = true ∧ condHolds .nc wram.cpu.flags = false ∧
      ∃ m n, busWrite (wram.cpu.sp - 1) wram.cpu.pc.hi wram = .ok m ∧
        busWrite (wram.cpu.sp - 2) wram.cpu.pc.lo m = .ok n := ⟨wram_canonical, rfl, rfl, _, _, rfl, rfl⟩

theorem witness_Returns :
    condHolds .nz wram.cpu.flags = false ∧ condHolds .z wram.cpu.flags = true ∧
      busRead wram.cpu.sp wram = .ok 0x34 ∧ busRead (wram.cpu.sp + 1) wram = .ok 0x12 := ⟨rfl, rfl, rfl, rfl⟩

theorem witness_UndefinedOpcodesAreLogged : (0xD3 : Byte) ∈ undefinedOpcodes ∧ (0xFD : Byte) ∈ undefinedOpcodes := by
  decide

/-- The latch is in step with its input: timer off, and timer on with the selected bit set. -/
theorem witness_TimerCountsPeriods :
    base.timer.lastAnd = timerAnd base.timer.div base.timer.tac ∧
      (Timer.mk 0xAB08 true 0xFF 0x00 0x05).lastAnd = timerAnd 0xAB08 0x05 := ⟨rfl, rfl⟩

theorem witness_PpuPositionCountsDots : base.ppuRuns ∧ base.ppu.dot < 456 ∧ base.ppu.ly < 154 :=
  ⟨fun h => (by cases h.1), by decide, by decide⟩

theorem witness_PpuTickStatusAndRequests :
    base.ppuRuns ∧ ({ base.ppu with dot := 455, ly := 153 } : Ppu).dot < 456 ∧
      ({ base.ppu with dot := 455, ly := 153 } : Ppu).ly < 154 := ⟨fun h => (by cases h.1), by decide, by decide⟩

theorem witness_PipelineResets :
    (∃ s : State, s = { base with ppu := { base.ppu with dot := 251, ly := 143 } } ∧ s.ppuRuns ∧ s.ppu.dot = 251 ∧
      s.ppu.ly < 144) ∧
      ¬ ({ base with
            settings := { base.settings with lcdOff := .frozenAtLine0 }
            ppu := { base.ppu with lcdc := 0x11 } } : State).ppuRuns :=
  ⟨⟨_, rfl, fun h => (by cases h.1), rfl, by decide⟩, fun h => h ⟨rfl, rfl⟩⟩

theorem witness_DrawnLineIsTheBackground :
    ∃ s : State, s = { base with ppu := { base.ppu with dot := 79, ly := 143 } } ∧ s.ppu.lcdOn = true ∧ s.ppu.ly < 144 ∧
      s.ppu.dot = 79 ∧ s.ppu.pipelineIdle ∧ s.ppu.fb.wf = true :=
  ⟨_, rfl, rfl, by decide, rfl, ⟨rfl, rfl, rfl, rfl⟩, rfl⟩

end Sys2Proof.Tests
end

section
/-! PROOFS. Everything a CPU step can do to what the timer, the PPU and the host own (`unitsKept`), phase by phase from
the interrupt check to the instruction; that no step changes the parameters, the image or the host's nibbles follows. -/

namespace Sys2Proof.Machine

/-! ## Updates that touch none of the units -/

/-- The CPU, IE and IF, and the cycle count are none of the units. -/
theorem unitsKept.setCpuIrqCycles {s t : State} (h : unitsKept s t) (c : Cpu) (q : Irq) (n : Nat) :
    unitsKept s { t with cpu := c, irq := q, cycles := n } := { h with }

theorem unitsKept.appendUndefLog {s t : State} (h : unitsKept s t) (e : Byte × Word) :
    unitsKept s { t with undefLog := t.undefLog ++ [e] } :=
  { h with undefLog := h.undefLog.trans (List.prefix_append _ _) }

theorem unitsKept.busWrite {s t m : State} {a : Word} {v : Byte} (h : unitsKept s t) (hw : busWrite a v t = .ok m) :
    unitsKept s m := h.trans (busWrite_unitsKept hw)

/-! ## The instruction -/

theorem unitsKept_of_moves {s t : State} (h : Moves s t) : unitsKept s t := by
  induction h with
  | refl => exact .refl s
  | write a v _ hw ih => exact ih.busWrite hw
  | charge n _ ih => exact ih.setCpuIrqCycles _ _ _
  | log e _ ih => exact ih.appendUndefLog e
  | cpu _ _ ih => exact ih.setCpuIrqCycles _ _ _

theorem exec_unitsKept (i : Instr) (s : State) : Post (exec i s) (unitsKept s) := by
  intro t h
  by_cases hi : i = .reti
  · subst hi
    obtain ⟨u, hu, rfl⟩ := reti_moves h
    exact (unitsKept_of_moves hu).setCpuIrqCycles _ _ _
  · exact unitsKept_of_moves (exec_moves hi s t h)

/-! ## The phases of the CPU step

Each hands its continuation a state whose units are kept, so a phase answers what its continuation answers there. -/

section
variable {P : State → Prop} {r s : State}

theorem takeInterrupt_unitsKept {n : Nat} {k : State → Out} (hs : unitsKept r s)
    (h : ∀ t, unitsKept r t → Post (k t) P) : Post (takeInterrupt n s k) P :=
  post_push16 fun _ _ hm hn =>
    h _ ((((hs.setCpuIrqCycles _ _ _).busWrite hm).busWrite hn).setCpuIrqCycles _ _ _)

theorem interruptCheck_unitsKept {k : Bool → State → Out} (hs : unitsKept r s)
    (h : ∀ b t, unitsKept r t → Post (k b t) P) : Post (interruptCheck s k) P := by
  have awake : unitsKept r (wakeFromStop (wakeFromHalt s)) := by
    obtain ⟨halted, stopped, e⟩ := wake_eq s
    rw [e]
    exact hs.setCpuIrqCycles _ _ _
  exact post_ite (fun _ => takeInterrupt_unitsKept awake (h true)) fun _ => h false _ awake

theorem fetch8_unitsKept {k : Byte → State → Out} (hs : unitsKept r s) (h : ∀ v t, unitsKept r t → Post (k v t) P) :
    Post (fetch8 s k) P :=
  post_fetch8 fun v _ => h v _ (hs.setCpuIrqCycles _ _ _)

theorem fetchInstr_unitsKept {k : Instr → State → Out} (hs : unitsKept r s)
    (h : ∀ i t, unitsKept r t → Post (k i t) P) : Post (fetchInstr s k) P := by
  refine fetch8_unitsKept hs fun op s1 h1 => ?_
  cases Decode.primary op with
  | done i => exact h i s1 h1
  | imm8 f => exact fetch8_unitsKept h1 fun n s2 h2 => h (f n) s2 h2
  | imm16 f => exact fetch8_unitsKept h1 fun lo s2 h2 => fetch8_unitsKept h2 fun hi s3 h3 => h _ s3 h3

theorem fetchPhase_unitsKept (hs : unitsKept r s) : Post (fetchPhase exec s) (unitsKept r) :=
  post_ite (fun _ => post_finish (hs.setCpuIrqCycles _ _ _)) fun _ =>
    fetchInstr_unitsKept hs fun i t ht u hu => ht.trans (exec_unitsKept i t u hu)

end

/-- The CPU step keeps the units as they are once the frame flag and the cycles are cleared. -/
theorem cpuStep_unitsKept (s : State) : Post (cpuStep exec s) (unitsKept s.beginStep) :=
  interruptCheck_unitsKept ((unitsKept.refl s.beginStep).setCpuIrqCycles _ _ _) fun _ _ ht =>
    post_ite (fun _ => post_next ht) fun _ => fetchPhase_unitsKept ht

/-! ## The step -/

/-- Settles O17: the CPU step keeps the units, and the ticks after it write the timer, the PPU, IF and the frame flag
alone. -/
theorem stepsKeepTheParameters : Obligations.StepsKeepTheParameters := by
  unfold Obligations.StepsKeepTheParameters
  intro s t h
  obtain ⟨u, hu, rfl⟩ := step_eq_next.mp h
  have kept := cpuStep_unitsKept s u hu
  obtain ⟨_, _, _, _, ticked⟩ := advance_eq u
  rw [ticked]
  exact ⟨kept.settings, kept.image, kept.bootEnabled, kept.bootLatch, kept.dirs, kept.buttons⟩

end Sys2Proof.Machine
end

section
/-! PROOFS. The invariant of the machine, `State.Ok`: the CPU side of a step keeps it because it writes the stores and F
only in canonical form, and the PPU's ticks keep it because its pipeline runs only in Draw and HBlank entry clears it. -/

namespace Sys2Proof.Machine

/-! ## What the phases of the CPU step keep

A property that survives the updates the phases make, and every instruction, survives the CPU step. -/

/-- `ime_commit` as one update: `DI` is applied last and wins (R206). -/
theorem Cpu.commitEi_commitDi_eq (c : Cpu) : c.commitEi.commitDi = { c with
    ime := if c.diPending = 1 then false else if c.eiPending = 1 then true else c.ime
    eiPending := if c.eiPending = 2 then 1 else 0
    diPending := if c.diPending = 2 then 1 else 0 } := by
  obtain ⟨⟩ := c
  rename_i ei di _ _
  fin_cases ei <;> fin_cases di <;> rfl

/-- `P` depends neither on the CPU but for F, nor on IE and IF, nor on the cycle count; a bus write and an instruction
keep it. -/
structure CpuSideInvariant (P : State → Prop) : Prop where
  setCpuIrqCycles : ∀ {s : State} {c : Cpu} (q : Irq) (n : Nat), P s → c.f = s.cpu.f →
    P { s with cpu := c, irq := q, cycles := n }
  busWrite : ∀ {a : Word} {v : Byte} {s m : State}, P s → busWrite a v s = .ok m → P m
  exec : ∀ (i : Instr) {s : State}, P s → Post (exec i s) P

section
variable {P Q : State → Prop} {s : State} (inv : CpuSideInvariant P)
include inv

theorem CpuSideInvariant.post_takeInterrupt {n : Nat} {k : State → Out} (hs : P s) (h : ∀ t, P t → Post (k t) Q) :
    Post (takeInterrupt n s k) Q := by
  refine post_push16 fun _ t hm ht => h _ (inv.setCpuIrqCycles (s := t) t.irq t.cycles ?_ rfl)
  refine inv.busWrite (inv.busWrite ?_ hm) ht
  exact inv.setCpuIrqCycles (s := s) _ _ hs rfl

theorem CpuSideInvariant.post_interruptCheck {k : Bool → State → Out} (hs : P s)
    (h : ∀ b t, P t → Post (k b t) Q) : Post (interruptCheck s k) Q := by
  have awake : P (wakeFromStop (wakeFromHalt s)) := by
    obtain ⟨halted, stopped, e⟩ := wake_eq s
    rw [e]
    exact inv.setCpuIrqCycles s.irq s.cycles hs rfl
  exact post_ite (fun _ => inv.post_takeInterrupt awake (h true)) fun _ => h false _ awake

theorem CpuSideInvariant.post_fetch8 {k : Byte → State → Out} (hs : P s) (h : ∀ v t, P t → Post (k v t) Q) :
    Post (fetch8 s k) Q :=
  Machine.post_fetch8 fun v _ => h v _ (inv.setCpuIrqCycles s.irq s.cycles hs rfl)

theorem CpuSideInvariant.post_fetchInstr {k : Instr → State → Out} (hs : P s) (h : ∀ i t, P t → Post (k i t) Q) :
    Post (fetchInstr s k) Q := by
  refine inv.post_fetch8 hs fun op s1 h1 => ?_
  cases Decode.primary op with
  | done i => exact h i s1 h1
  | imm8 f => exact inv.post_fetch8 h1 fun n s2 h2 => h (f n) s2 h2
  | imm16 f => exact inv.post_fetch8 h1 fun _ s2 h2 => inv.post_fetch8 h2 fun _ s3 h3 => h _ s3 h3

theorem CpuSideInvariant.post_fetchPhase (hs : P s) : Post (fetchPhase Machine.exec s) P :=
  post_ite (fun _ => post_finish (inv.setCpuIrqCycles s.irq _ hs rfl)) fun _ =>
    inv.post_fetchInstr hs fun i _ ht => inv.exec i ht

theorem CpuSideInvariant.post_cpuStep (hs : P s.beginStep) : Post (cpuStep Machine.exec s) P := by
  have committed : P (imeCommit s.beginStep) :=
    inv.setCpuIrqCycles s.irq 0 hs (show s.cpu.commitEi.commitDi.f = s.cpu.f by rw [Cpu.commitEi_commitDi_eq])
  exact inv.post_interruptCheck committed fun _ _ ht =>
    post_ite (fun _ => post_next ht) fun _ => inv.post_fetchPhase ht

end

/-! ## The CPU side of the invariant -/

/-- What goes into F from the stack has a low nibble of 0 (R17). -/
theorem and_F0_low (v : Byte) : (v &&& 0xF0).extractLsb' 0 4 = 0 := by
  ext i hi
  interval_cases i <;> simp

theorem CpuMove.flagsLow {c d : Cpu} (h : CpuMove c d) (hc : c.f.extractLsb' 0 4 = 0) : d.f.extractLsb' 0 4 = 0 := by
  cases h with
  | setReg | setPair | setFlags => simpa using hc
  | setStackPair q v =>
    cases q with
    | af => exact and_F0_low v.lo
    | bc | de | hl => exact hc
  | setSp | setPc | halt | stop | ei | di => exact hc

/-- A state with the units of one that meets the invariant, and F and the stores canonical, meets it. -/
theorem State.Ok.of_unitsKept {s t : State} (h : s.Ok) (k : unitsKept s t) (flagsLow : t.cpu.f.extractLsb' 0 4 = 0)
    (mem : t.mem.wf = true) : t.Ok where
  flagsLow := flagsLow
  mem := mem
  fb := k.fb ▸ h.fb
  dot := k.dot ▸ h.dot
  ly := k.ly ▸ h.ly
  lx := k.lx ▸ h.lx
  fifo := k.fifo ▸ h.fifo
  idle := by
    unfold Ppu.outsideDraw Ppu.pipelineIdle
    rw [k.ly, k.dot, k.fstate, k.fetcherX, k.fifo, k.lx]
    exact h.idle

theorem State.Ok.busWrite {s m : State} {a : Word} {v : Byte} (h : s.Ok) (hw : busWrite a v s = .ok m) : m.Ok :=
  h.of_unitsKept (busWrite_unitsKept hw) ((busWrite_cpu hw).1 ▸ h.flagsLow) (busWrite_memWf hw h.mem)

theorem State.Ok.moves {s t : State} (h : s.Ok) (hm : Moves s t) : t.Ok := by
  induction hm with
  | refl => exact h
  | write a v _ hw ih => exact ih.busWrite hw
  | charge n _ ih => exact { ih with }
  | log e _ ih => exact { ih with }
  | cpu _ hc ih => exact { ih with flagsLow := hc.flagsLow ih.flagsLow }

theorem exec_ok (i : Instr) {s : State} (h : s.Ok) : Post (exec i s) State.Ok := by
  intro t ht
  by_cases hi : i = .reti
  · subst hi
    obtain ⟨u, hu, rfl⟩ := reti_moves ht
    exact { h.moves hu with }
  · exact h.moves (exec_moves hi s t ht)

theorem State.cpuSideInvariant_ok : CpuSideInvariant State.Ok where
  setCpuIrqCycles _ _ h hf := { h with flagsLow := hf ▸ h.flagsLow }
  busWrite := State.Ok.busWrite
  exec := exec_ok

/-! ## What the pixel pipeline of the PPU leaves alone -/

/-- `q` has the position of `p` and the registers that STAT is written from. -/
structure Ppu.StatInputsKept (p q : Ppu) : Prop where
  dot : q.dot = p.dot
  ly : q.ly = p.ly
  lyc : q.lyc = p.lyc
  stat : q.stat = p.stat

theorem Ppu.fetcherStep_statInputs (mem : Memory) (p : Ppu) : p.StatInputsKept (p.fetcherStep mem) := by
  unfold Ppu.fetcherStep
  cases p.fstate with
  | getTileIndex | getDataLow | getDataHigh => exact ⟨rfl, rfl, rfl, rfl⟩
  | pushToFifo => dsimp only; split <;> exact ⟨rfl, rfl, rfl, rfl⟩

theorem Ppu.fifoPop_statInputs (p : Ppu) : p.StatInputsKept p.fifoPop := by
  unfold Ppu.fifoPop
  split
  · exact ⟨rfl, rfl, rfl, rfl⟩
  · split <;> exact ⟨rfl, rfl, rfl, rfl⟩

theorem Ppu.StatInputsKept.trans {p q r : Ppu} (h : p.StatInputsKept q) (k : q.StatInputsKept r) : p.StatInputsKept r :=
  ⟨k.dot.trans h.dot, k.ly.trans h.ly, k.lyc.trans h.lyc, k.stat.trans h.stat⟩

theorem Ppu.actAt_statInputs (phase : Fin 2) (mem : Memory) (m : PpuMode) (p : Ppu) :
    p.StatInputsKept (p.actAt phase mem m) := by
  unfold Ppu.actAt Ppu.drawDot
  split
  · exact ⟨rfl, rfl, rfl, rfl⟩
  split
  · split
    · exact (p.fetcherStep_statInputs mem).trans (Ppu.fifoPop_statInputs _)
    · exact p.fifoPop_statInputs
  · exact ⟨rfl, rfl, rfl, rfl⟩

/-! ## The PPU's ranges -/

/-- What the invariant says of the PPU. -/
structure Ppu.InRange (p : Ppu) : Prop where
  fb : p.fb.wf = true
  dot : p.dot < 456
  ly : p.ly < 154
  lx : p.lx ≤ 160
  fifo : p.fifo.length ≤ 16
  idle : p.outsideDraw → p.pipelineIdle

theorem State.Ok.ppu {s : State} (h : s.Ok) : s.ppu.InRange := { h with }

theorem Ppu.advance_dot_lt {p : Ppu} (h : p.dot < 456) : p.advance.dot < 456 := by
  unfold Ppu.advance
  split
  · exact Nat.zero_lt_succ _
  · change p.dot + 1 < 456
    omega

theorem Ppu.advance_ly_lt {p : Ppu} (h : p.ly < 154) : p.advance.ly < 154 := by
  unfold Ppu.advance
  split
  · exact Nat.mod_lt _ (by omega)
  · exact h

/-- The position moves and nothing else changes. -/
theorem Ppu.advance_eq (p : Ppu) : ∃ dot ly, p.advance = { p with dot := dot, ly := ly } := by
  unfold Ppu.advance
  split
  · exact ⟨_, _, rfl⟩
  · exact ⟨_, p.ly, rfl⟩

/-- A dot outside Draw that is not HBlank entry comes after a dot outside Draw. -/
theorem Ppu.outsideDraw_of_advance {p : Ppu} (h : p.advance.outsideDraw)
    (entry : ¬ (p.advance.ly < 144 ∧ p.advance.dot = 252)) : p.outsideDraw := by
  unfold Ppu.outsideDraw Ppu.advance at *
  by_cases wrap : p.dot + 1 = 456
  · exact .inr (.inr (by omega))
  · rw [if_neg wrap] at h entry
    dsimp only at h entry
    omega

theorem not_outsideDraw_of_draw {p : Ppu} (h : ppuMode p.ly p.dot p.lcdOn = .draw) : ¬ p.outsideDraw := by
  unfold ppuMode at h
  unfold Ppu.outsideDraw
  split at h
  · cases h
  split at h
  · cases h
  split at h
  · omega
  · cases h

/-- A tick that is not HBlank entry starts in range. -/
theorem Ppu.InRange.advance {p : Ppu} (h : p.InRange) (entry : ¬ (p.advance.ly < 144 ∧ p.advance.dot = 252)) :
    p.advance.InRange := by
  have hdot := Ppu.advance_dot_lt h.dot
  have hly := Ppu.advance_ly_lt h.ly
  have hout : p.advance.outsideDraw → p.outsideDraw := fun o => Ppu.outsideDraw_of_advance o entry
  obtain ⟨dot, ly, e⟩ := p.advance_eq
  rw [e] at hdot hly hout ⊢
  exact { h with dot := hdot, ly := hly, idle := fun o => h.idle (hout o) }

/-- HBlank entry leaves the pipeline idle (R222). -/
theorem Ppu.InRange.hblankEntry {p : Ppu} (fb : p.fb.wf = true) (dot : p.dot < 456) (ly : p.ly < 154) :
    p.hblankEntry.InRange where
  fb := fb
  dot := dot
  ly := ly
  lx := Nat.zero_le 160
  fifo := Nat.zero_le 16
  idle _ := ⟨rfl, rfl, rfl, rfl⟩

/-- In Draw the fetcher keeps the ranges: it pushes only into a FIFO of at most 8 pixels (R227). -/
theorem Ppu.InRange.fetcherStep {p : Ppu} (h : p.InRange) (draw : ¬ p.outsideDraw) (mem : Memory) :
    (p.fetcherStep mem).InRange := by
  unfold Ppu.fetcherStep
  cases p.fstate with
  | getTileIndex | getDataLow | getDataHigh => exact { h with idle := fun o => absurd o draw }
  | pushToFifo =>
    dsimp only
    split
    · refine { h with fifo := ?_, idle := fun o => absurd o draw }
      simp only [List.length_append, rowPixels, List.length_map, List.length_cons, List.length_nil]
      omega
    · exact h

/-- In Draw the consumer keeps the ranges: it writes inside the 160-pixel window of a visible line (R228). -/
theorem Ppu.InRange.fifoPop {p : Ppu} (h : p.InRange) (draw : ¬ p.outsideDraw) : p.fifoPop.InRange := by
  have visible : p.ly < 144 := Nat.lt_of_not_le fun v => draw (.inl v)
  unfold Ppu.fifoPop
  split
  · exact h
  next px rest hfifo =>
    split
    · next window =>
      exact { h with
        fb := FrameBuffer.wf_setShade h.fb _ visible window
        lx := window
        fifo := by
          have := h.fifo
          rw [hfifo, List.length_cons] at this
          exact Nat.le_of_succ_le this
        idle := fun o => absurd o draw }
    · exact h

theorem Ppu.InRange.drawDot {p : Ppu} (h : p.InRange) (draw : ¬ p.outsideDraw) (phase : Fin 2) (mem : Memory) :
    (p.drawDot phase mem).InRange := by
  unfold Ppu.drawDot
  split
  · refine (h.fetcherStep draw mem).fifoPop ?_
    have kept := p.fetcherStep_statInputs mem
    unfold Ppu.outsideDraw at *
    rwa [kept.dot, kept.ly]
  · exact h.fifoPop draw

/-- The acting part of a tick: HBlank entry, a dot of Draw, or a dot that leaves the pipeline alone (R219). -/
theorem Ppu.InRange.actAt_advance {p : Ppu} (h : p.InRange) (phase : Fin 2) (mem : Memory) :
    (p.advance.actAt phase mem (ppuMode p.advance.ly p.advance.dot p.advance.lcdOn)).InRange := by
  unfold Ppu.actAt
  split
  · have fb : p.advance.fb.wf = true := by
      obtain ⟨_, _, e⟩ := p.advance_eq
      rw [e]
      exact h.fb
    exact .hblankEntry fb (Ppu.advance_dot_lt h.dot) (Ppu.advance_ly_lt h.ly)
  · next entry =>
    split
    · next draw => exact (h.advance entry).drawDot (not_outsideDraw_of_draw draw) phase mem
    · exact h.advance entry

theorem Ppu.InRange.tick {p : Ppu} (h : p.InRange) (st : Settings) (mem : Memory) : (p.tick st mem).1.InRange := by
  by_cases frozen : st.lcdOff = .frozenAtLine0 ∧ p.lcdOn = false
  · unfold Ppu.tick
    rw [if_pos frozen]
    have reset : ({ p with dot := 0, ly := 0 } : Ppu).hblankEntry.InRange :=
      .hblankEntry h.fb (by simp) (by simp)
    exact { reset with }
  · rw [Ppu.tick_running frozen]
    exact { h.actAt_advance st.fetchPhase mem with }

/-! ## The step -/

theorem State.Ok.ppuTick {s : State} (h : s.Ok) : (ppuTick s).Ok :=
  { h.ppu.tick s.settings s.mem, h with }

theorem State.Ok.timerTick {s : State} (h : s.Ok) : (timerTick s).Ok := { h with }

theorem State.Ok.ticks {tick : State → State} (keeps : ∀ {s : State}, s.Ok → (tick s).Ok) {s : State} (h : s.Ok)
    (n : Nat) : (ticks tick n s).Ok :=
  ticks_induct (R := fun s t => s.Ok → t.Ok) (fun _ => id) (fun _ _ ih h => keeps (ih h)) n s h

theorem State.Ok.advance {s : State} (h : s.Ok) : (advance s).Ok :=
  (h.ticks State.Ok.timerTick _).ticks State.Ok.ppuTick _

/-- Settles O12: the phases of the CPU step keep the invariant, and so does every tick of the timer and of the PPU. -/
theorem everyStepKeepsTheInvariant : Obligations.EveryStepKeepsTheInvariant := by
  unfold Obligations.EveryStepKeepsTheInvariant
  intro s t h e
  obtain ⟨u, hu, rfl⟩ := step_eq_next.mp e
  have begun : s.beginStep.Ok := { h with }
  exact (State.cpuSideInvariant_ok.post_cpuStep begun u hu).advance

/-! ## Reset -/

theorem State.atReset_ok (p : PowerOn) (cart : Cart) : (State.atReset p cart).Ok where
  flagsLow := and_F0_low p.cpuInit.f
  mem := Memory.wf_ofRamInit p.ramInit
  fb := rfl
  dot := (by decide : 0 < 456)
  ly := (by decide : 0 < 154)
  lx := Nat.zero_le 160
  fifo := Nat.zero_le 16
  idle _ := ⟨rfl, rfl, rfl, rfl⟩

/-- Settles O13: F is masked, the memory is canonical whatever `P_RAM_INIT` is, and the rest is written out. -/
theorem resetMeetsTheInvariant : Obligations.ResetMeetsTheInvariant := by
  unfold Obligations.ResetMeetsTheInvariant
  exact ⟨State.atReset_ok, State.atReset_ok _ _⟩

end Sys2Proof.Machine
end

section
/-! PROOFS. Every instruction but `RETI`, `EI`, `DI`, `HALT` and `STOP` runs one of the shared forms of its family, and no
such form writes the control state of the CPU (R22 to R25). -/

namespace Sys2Proof.Machine

/-! ## The forms -/

/-- What an instruction that leaves the control state alone answers: one constructor a shared form, and one for each
instruction that has a form of its own. -/
inductive PlainForm (s : State) : Out → Prop where
  | aluAcc (op : AluOp) (src : AluSrc) (n : Nat) : PlainForm s (aluAcc op src n s)
  | shiftLoc (op : ShiftOp) (x : Loc) (n : Nat) : PlainForm s (shiftLoc op x n s)
  | bitLoc (b : Fin 8) (x : Loc) (n : Nat) : PlainForm s (bitLoc b x n s)
  | resLoc (b : Fin 8) (x : Loc) (n : Nat) : PlainForm s (resLoc b x n s)
  | setLoc (b : Fin 8) (x : Loc) (n : Nat) : PlainForm s (setLoc b x n s)
  | ldRegReg (dst src : Reg8) : PlainForm s (ldRegReg dst src s)
  | ldRegImm (dst : Reg8) (n : Byte) : PlainForm s (ldRegImm dst n s)
  | ldRegHl (dst : Reg8) : PlainForm s (ldRegHl dst s)
  | ldHlReg (r : Reg8) : PlainForm s (ldHlReg r s)
  | ldAHlStep (d : Word) : PlainForm s (ldAHlStep d s)
  | stAHlStep (d : Word) : PlainForm s (stAHlStep d s)
  | ldAFrom (a : Word) (n : Nat) : PlainForm s (ldAFrom a n s)
  | stAAt (a : Word) (n : Nat) : PlainForm s (stAAt a n s)
  | storeHlImm (n : Byte) : PlainForm s (execLdIndHlN n s)
  | storeSp (nn : Word) : PlainForm s (execLdIndNnSp nn s)
  | ldPairImm (p : RegPair) (nn : Word) : PlainForm s (ldPairImm p nn s)
  | ldHlSpOffset (e : Byte) : PlainForm s (ldHlSpOffset e s)
  | ldSpHl : PlainForm s (execLdSpHl s)
  | pushPair (q : StackPair) : PlainForm s (pushPair q s)
  | popPair (q : StackPair) : PlainForm s (popPair q s)
  | incLoc (x : Loc) (n : Nat) : PlainForm s (incLoc x n s)
  | decLoc (x : Loc) (n : Nat) : PlainForm s (decLoc x n s)
  | onAcc (g : Byte → Flags → ByteOut) : PlainForm s (onAcc g s)
  | scf : PlainForm s (execScf s)
  | ccf : PlainForm s (execCcf s)
  | addHlPair (p : RegPair) : PlainForm s (addHlPair p s)
  | stepPair (p : RegPair) (d : Word) : PlainForm s (stepPair p d s)
  | addSpOffset (e : Byte) : PlainForm s (addSpOffset e s)
  | rotateAcc (op : ShiftOp) : PlainForm s (rotateAcc op s)
  | jump (target : Word) (n : Nat) : PlainForm s (finish n (s.jump target))
  | jpIf (cc : Cond) (nn : Word) : PlainForm s (jpIf cc nn s)
  | jrIf (cc : Cond) (e : Byte) : PlainForm s (jrIf cc e s)
  | callTo (target : Word) (n : Nat) : PlainForm s (callTo target n s)
  | callIf (cc : Cond) (nn : Word) : PlainForm s (callIf cc nn s)
  | retFrom (n : Nat) : PlainForm s (retFrom n s)
  | retIf (cc : Cond) : PlainForm s (retIf cc s)
  | nop : PlainForm s (execNop s)
  | undefined (op : Byte) : PlainForm s (execUndefined op s)

/-- The CB instruction of a second byte is a shift or one of the three bit operations (R101). -/
theorem cbByFields_plain (cb : Byte) (s : State) : PlainForm s (cbByFields cb s) := by
  unfold cbByFields
  split
  · exact .shiftLoc _ _ _
  split
  · exact .bitLoc _ _ _
  split
  · exact .resLoc _ _ _
  · exact .setLoc _ _ _

/-- Which form an instruction has. -/
theorem exec_plain {i : Instr} (reti : i ≠ .reti) (ei : i ≠ .ei) (di : i ≠ .di) (halt : i ≠ .halt) (stop : i ≠ .stop)
    (s : State) : PlainForm s (exec i s) := by
  cases i with dsimp only [exec]
  | reti => exact absurd rfl reti
  | ei => exact absurd rfl ei
  | di => exact absurd rfl di
  | halt => exact absurd rfl halt
  | stop => exact absurd rfl stop
  | prefixCb cb => exact cbByFields_plain cb s
  | ldBcNn _ | ldDeNn _ | ldHlNn _ | ldSpNn _ => exact .ldPairImm _ _
  | ldBN _ | ldCN _ | ldDN _ | ldEN _ | ldHN _ | ldLN _ | ldAN _ => exact .ldRegImm _ _
  | ldIndNnSp _ => exact .storeSp _
  | jrE _ | jpNn _ | jpHl => exact .jump _ _
  | jrNZE _ | jrZE _ | jrNCE _ | jrCE _ => exact .jrIf _ _
  | ldIndHlN _ => exact .storeHlImm _
  | jpNZNn _ | jpZNn _ | jpNCNn _ | jpCNn _ => exact .jpIf _ _
  | callNZNn _ | callZNn _ | callNCNn _ | callCNn _ => exact .callIf _ _
  | addAN _ | adcAN _ | subAN _ | sbcAN _ | andAN _ | xorAN _ | orAN _ | cpAN _ | addAB | addAC | addAD | addAE
  | addAH | addAL | addAIndHl | addAA | adcAB | adcAC | adcAD | adcAE | adcAH | adcAL | adcAIndHl | adcAA
  | subAB | subAC | subAD | subAE | subAH | subAL | subAIndHl | subAA | sbcAB | sbcAC | sbcAD | sbcAE | sbcAH
  | sbcAL | sbcAIndHl | sbcAA | andAB | andAC | andAD | andAE | andAH | andAL | andAIndHl | andAA | xorAB
  | xorAC | xorAD | xorAE | xorAH | xorAL | xorAIndHl | xorAA | orAB | orAC | orAD | orAE | orAH | orAL
  | orAIndHl | orAA | cpAB | cpAC | cpAD | cpAE | cpAH | cpAL | cpAIndHl | cpAA => exact .aluAcc _ _ _
  | callNn _ | rst00 | rst08 | rst10 | rst18 | rst20 | rst28 | rst30 | rst38 => exact .callTo _ _
  | undefined _ => exact .undefined _
  | ldhIndA8A _ | ldIndNnA _ | ldIndBcA | ldIndDeA | ldIndCA => exact .stAAt _ _
  | addSpE _ => exact .addSpOffset _
  | ldhAIndA8 _ | ldAIndNn _ | ldAIndBc | ldAIndDe | ldAIndC => exact .ldAFrom _ _
  | ldHlSpE _ => exact .ldHlSpOffset _
  | nop => exact .nop
  | incBc | decBc | incDe | decDe | incHl | decHl | incSp | decSp => exact .stepPair _ _
  | incB | incC | incD | incE | incH | incL | incIndHl | incA => exact .incLoc _ _
  | decB | decC | decD | decE | decH | decL | decIndHl | decA => exact .decLoc _ _
  | rlca | rrca | rla | rra => exact .rotateAcc _
  | addHlBc | addHlDe | addHlHl | addHlSp => exact .addHlPair _
  | ldIndHlIncA | ldIndHlDecA => exact .stAHlStep _
  | daa | cpl => exact .onAcc _
  | ldAIndHlInc | ldAIndHlDec => exact .ldAHlStep _
  | scf => exact .scf
  | ccf => exact .ccf
  | ldBB | ldBC | ldBD | ldBE | ldBH | ldBL | ldBA | ldCB | ldCC | ldCD | ldCE | ldCH | ldCL | ldCA | ldDB
  | ldDC | ldDD | ldDE | ldDH | ldDL | ldDA | ldEB | ldEC | ldED | ldEE | ldEH | ldEL | ldEA | ldHB | ldHC
  | ldHD | ldHE | ldHH | ldHL | ldHA | ldLB | ldLC | ldLD | ldLE | ldLH | ldLL | ldLA | ldAB | ldAC | ldAD
  | ldAE | ldAH | ldAL | ldAA => exact .ldRegReg _ _
  | ldBIndHl | ldCIndHl | ldDIndHl | ldEIndHl | ldHIndHl | ldLIndHl | ldAIndHl => exact .ldRegHl _
  | ldIndHlB | ldIndHlC | ldIndHlD | ldIndHlE | ldIndHlH | ldIndHlL | ldIndHlA => exact .ldHlReg _
  | retNZ | retZ | retNC | retC => exact .retIf _
  | popBc | popDe | popHl | popAf => exact .popPair _
  | pushBc | pushDe | pushHl | pushAf => exact .pushPair _
  | ret => exact .retFrom _
  | ldSpHl => exact .ldSpHl
  | rlcB | rlcC | rlcD | rlcE | rlcH | rlcL | rlcIndHl | rlcA | rrcB | rrcC | rrcD | rrcE | rrcH | rrcL
  | rrcIndHl | rrcA | rlB | rlC | rlD | rlE | rlH | rlL | rlIndHl | rlA | rrB | rrC | rrD | rrE | rrH | rrL
  | rrIndHl | rrA | slaB | slaC | slaD | slaE | slaH | slaL | slaIndHl | slaA | sraB | sraC | sraD | sraE
  | sraH | sraL | sraIndHl | sraA | swapB | swapC | swapD | swapE | swapH | swapL | swapIndHl | swapA | srlB
  | srlC | srlD | srlE | srlH | srlL | srlIndHl | srlA => exact .shiftLoc _ _ _
  | bit0B | bit0C | bit0D | bit0E | bit0H | bit0L | bit0IndHl | bit0A | bit1B | bit1C | bit1D | bit1E | bit1H
  | bit1L | bit1IndHl | bit1A | bit2B | bit2C | bit2D | bit2E | bit2H | bit2L | bit2IndHl | bit2A | bit3B
  | bit3C | bit3D | bit3E | bit3H | bit3L | bit3IndHl | bit3A | bit4B | bit4C | bit4D | bit4E | bit4H | bit4L
  | bit4IndHl | bit4A | bit5B | bit5C | bit5D | bit5E | bit5H | bit5L | bit5IndHl | bit5A | bit6B | bit6C
  | bit6D | bit6E | bit6H | bit6L | bit6IndHl | bit6A | bit7B | bit7C | bit7D | bit7E | bit7H | bit7L
  | bit7IndHl | bit7A => exact .bitLoc _ _ _
  | res0B | res0C | res0D | res0E | res0H | res0L | res0IndHl | res0A | res1B | res1C | res1D | res1E | res1H
  | res1L | res1IndHl | res1A | res2B | res2C | res2D | res2E | res2H | res2L | res2IndHl | res2A | res3B
  | res3C | res3D | res3E | res3H | res3L | res3IndHl | res3A | res4B | res4C | res4D | res4E | res4H | res4L
  | res4IndHl | res4A | res5B | res5C | res5D | res5E | res5H | res5L | res5IndHl | res5A | res6B | res6C
  | res6D | res6E | res6H | res6L | res6IndHl | res6A | res7B | res7C | res7D | res7E | res7H | res7L
  | res7IndHl | res7A => exact .resLoc _ _ _
  | set0B | set0C | set0D | set0E | set0H | set0L | set0IndHl | set0A | set1B | set1C | set1D | set1E | set1H
  | set1L | set1IndHl | set1A | set2B | set2C | set2D | set2E | set2H | set2L | set2IndHl | set2A | set3B
  | set3C | set3D | set3E | set3H | set3L | set3IndHl | set3A | set4B | set4C | set4D | set4E | set4H | set4L
  | set4IndHl | set4A | set5B | set5C | set5D | set5E | set5H | set5L | set5IndHl | set5A | set6B | set6C
  | set6D | set6E | set6H | set6L | set6IndHl | set6A | set7B | set7C | set7D | set7E | set7H | set7L
  | set7IndHl | set7A => exact .setLoc _ _ _

/-! ## The control state -/

theorem controlKept.refl (c : Cpu) : controlKept c c := ⟨rfl, rfl, rfl, rfl, rfl⟩

theorem busWrite_controlKept {c : Cpu} {a : Word} {v : Byte} {s m : State} (hs : controlKept c s.cpu)
    (h : busWrite a v s = .ok m) : controlKept c m.cpu := by
  obtain ⟨cpu, -, -⟩ := busWrite_cpu h
  rwa [cpu]

theorem locWritten_controlKept {x : Loc} {v : Byte} {s m : State} (h : locWritten x v s m) :
    controlKept s.cpu m.cpu := by
  cases x with
  | reg r => rw [show m = _ from h]; simp [controlKept]
  | atHl => exact busWrite_controlKept (.refl _) h

section
variable {P : State → Prop} {c : Cpu} {s : State}

theorem withWrite_controlKept {a : Word} {v : Byte} {k : State → Out} (hs : controlKept c s.cpu)
    (h : ∀ t, controlKept c t.cpu → Post (k t) P) : Post (withWrite a v s k) P :=
  post_withWrite fun m hm => h m (busWrite_controlKept hs hm)

theorem push16_controlKept {v : Word} {k : State → Out} (hs : controlKept c s.cpu)
    (h : ∀ t, controlKept c t.cpu → Post (k t) P) : Post (push16 v s k) P :=
  post_push16 fun _ n hm hn => h _ (show controlKept c n.cpu from busWrite_controlKept (busWrite_controlKept hs hm) hn)

theorem pop16_controlKept {k : Word → State → Out} (hs : controlKept c s.cpu)
    (h : ∀ v t, controlKept c t.cpu → Post (k v t) P) : Post (pop16 s k) P :=
  post_pop16 fun _ _ _ _ => h _ _ hs

theorem modifyLoc_controlKept {x : Loc} {g : Byte → Byte} {k : Byte → State → Out}
    (h : ∀ v t, controlKept s.cpu t.cpu → Post (k v t) P) : Post (modifyLoc x g s k) P :=
  post_modifyLoc fun v _ _ hm => h v _ (locWritten_controlKept hm)

end

/-- What a meaning answers has the control state of `s`. -/
abbrev KeepsControl (s : State) (o : Out) : Prop := Post o fun t => controlKept s.cpu t.cpu

theorem callTo_keepsControl (target : Word) (n : Nat) (s : State) : KeepsControl s (callTo target n s) :=
  push16_controlKept (.refl _) fun _ ht => post_finish ht

theorem retFrom_keepsControl (n : Nat) (s : State) : KeepsControl s (retFrom n s) :=
  pop16_controlKept (.refl _) fun _ _ ht => post_finish ht

theorem PlainForm.keepsControl {s : State} {o : Out} (h : PlainForm s o) : KeepsControl s o := by
  cases h with
  | ldHlSpOffset | ldSpHl | onAcc | scf | ccf | addHlPair | addSpOffset | rotateAcc | jump | nop | undefined =>
    exact post_finish (.refl _)
  | ldRegReg | ldRegImm | ldPairImm | stepPair => exact post_finish (by simp [controlKept])
  | ldRegHl => exact post_withRead fun _ _ => post_finish (by simp [controlKept])
  | ldAHlStep | ldAFrom => exact post_withRead fun _ _ => post_finish (.refl _)
  | aluAcc => exact post_aluOperand fun _ _ => post_finish (.refl _)
  | bitLoc => exact post_readLoc fun _ _ => post_finish (.refl _)
  | shiftLoc | incLoc | decLoc | resLoc | setLoc => exact modifyLoc_controlKept fun _ _ ht => post_finish ht
  | ldHlReg | stAAt | storeHlImm | stAHlStep => exact withWrite_controlKept (.refl _) fun _ ht => post_finish ht
  | storeSp =>
    exact withWrite_controlKept (.refl _) fun _ ht => withWrite_controlKept ht fun _ hu => post_finish hu
  | pushPair => exact push16_controlKept (.refl _) fun _ ht => post_finish ht
  | popPair => exact pop16_controlKept (.refl _) fun _ _ ht => post_finish (by simpa [controlKept] using ht)
  | callTo target n => exact callTo_keepsControl target n s
  | retFrom n => exact retFrom_keepsControl n s
  | jpIf | jrIf => exact post_ite (fun _ => post_finish (.refl _)) fun _ => post_finish (.refl _)
  | callIf _ nn => exact post_ite (fun _ => callTo_keepsControl nn 24 s) fun _ => post_finish (.refl _)
  | retIf => exact post_ite (fun _ => retFrom_keepsControl 20 s) fun _ => post_finish (.refl _)

/-- The control state of `d` is that of `c`, but for what `i` is named to write. -/
def controlWrittenBy (i : Instr) (c d : Cpu) : Prop :=
  (i ≠ .reti → d.ime = c.ime) ∧ (i ≠ .ei → d.eiPending = c.eiPending) ∧ (i ≠ .di → d.diPending = c.diPending) ∧
    (i ≠ .halt → d.halted = c.halted) ∧ (i ≠ .stop → d.stopped = c.stopped)

theorem reti_controlWrittenBy (s : State) : Post (execReti s) fun t => controlWrittenBy .reti s.cpu t.cpu := by
  unfold execReti returnFromInterrupt
  refine pop16_controlKept (.refl s.cpu) fun _ t ht => post_finish ?_
  obtain ⟨-, ei, di, halted, stopped⟩ := ht
  exact ⟨fun e => absurd rfl e, fun _ => ei, fun _ => di, fun _ => halted, fun _ => stopped⟩

theorem exec_controlWrittenBy (i : Instr) (s : State) : Post (exec i s) fun t => controlWrittenBy i s.cpu t.cpu := by
  by_cases reti : i = .reti
  · subst reti; exact reti_controlWrittenBy s
  by_cases ei : i = .ei
  · subst ei; exact post_finish (by simp [controlWrittenBy])
  by_cases di : i = .di
  · subst di; exact post_finish (by simp [controlWrittenBy])
  by_cases halt : i = .halt
  · subst halt; exact post_finish (by simp [controlWrittenBy])
  by_cases stop : i = .stop
  · subst stop; exact post_finish (by simp [controlWrittenBy])
  · intro t h
    obtain ⟨hime, hei, hdi, hhalted, hstopped⟩ := (exec_plain reti ei di halt stop s).keepsControl t h
    exact ⟨fun _ => hime, fun _ => hei, fun _ => hdi, fun _ => hhalted, fun _ => hstopped⟩

/-- Settles O15: each of the five has its own write, and every other instruction is of a form that keeps the control
state. -/
theorem onlyTheNamedInstructionsWriteControl : Obligations.OnlyTheNamedInstructionsWriteControl := by
  unfold Obligations.OnlyTheNamedInstructionsWriteControl
  exact fun i s t h => exec_controlWrittenBy i s t h

end Sys2Proof.Machine
end

section
/-! PROOFS. Phases 1 and 2 of a step that takes no interrupt, and the step of a CPU that fetches nothing (R114, R115,
R198, R206 to R208). -/

namespace Sys2Proof.Machine

/-! ## What phases 1 and 2 leave -/

theorem awake_eq (s : State) : awake s = { s with
    cpu := { s.cpu with
      ime := if s.cpu.diPending = 1 then false else if s.cpu.eiPending = 1 then true else s.cpu.ime
      eiPending := if s.cpu.eiPending = 2 then 1 else 0
      diPending := if s.cpu.diPending = 2 then 1 else 0
      halted := s.cpu.halted && decide (s.irq.pending = 0)
      stopped := s.cpu.stopped && !(decide (s.settings.stopMode = .haltUntilJoypad) && s.irq.ifr.getLsbD 4) }
    cycles := 0
    frameDone := false } := by
  unfold awake imeCommit
  rw [wakeFromStop_eq, wakeFromHalt_eq]
  simp only [State.onCpu, Cpu.commitEi_commitDi_eq]
  rfl

@[simp] theorem awake_settings (s : State) : (awake s).settings = s.settings := by rw [awake_eq]

theorem awake_halted (s : State) : (awake s).cpu.halted = (s.cpu.halted && decide (s.irq.pending = 0)) := by
  rw [awake_eq]

theorem awake_stopped (s : State) : (awake s).cpu.stopped =
    (s.cpu.stopped && !(decide (s.settings.stopMode = .haltUntilJoypad) && s.irq.ifr.getLsbD 4)) := by rw [awake_eq]

theorem awake_pc (s : State) : (awake s).cpu.pc = s.cpu.pc := by rw [awake_eq]

/-! ## A step that fetches nothing -/

/-- With no interrupt taken and phase 3 idle, the step is what phases 1 and 2 leave of the CPU and 4 cycles of the timer
and the PPU. -/
theorem step_idle {s : State} (quiet : (awake s).cpu.ime = false ∨ s.irq.pending = 0) (idle : (awake s).idle = true) :
    step s = .next (ticks ppuTick 4 (ticks timerTick 4 { s with
      cpu := (awake s).cpu
      cycles := 4
      frameDone := false })) := by
  have cpu : cpuStep exec s = .next { s with cpu := (awake s).cpu, cycles := 4, frameDone := false } := by
    unfold cpuStep
    rw [interruptCheck_quiet (by simpa [awake] using quiet)]
    change fetchPhase exec (awake s) = _
    unfold fetchPhase
    rw [if_pos idle, awake_eq]
    rfl
  unfold step machineStep
  rw [cpu]
  rfl

/-! ## The stopped flag under `FlagOnly` -/

theorem wakeFromHalt_stopping (s : State) : wakeFromHalt s.stopping = (wakeFromHalt s).stopping := by
  simp only [wakeFromHalt_eq]
  rfl

theorem wakeFromStop_flagOnly {s : State} (h : s.settings.stopMode = .flagOnly) : wakeFromStop s = s := by
  unfold wakeFromStop
  rw [h]
  rfl

theorem idle_flagOnly {s : State} (h : s.settings.stopMode = .flagOnly) : s.idle = s.cpu.halted := by
  simp [State.idle, h]

theorem fetchPhase_stopping {s : State} (h : s.settings.stopMode = .flagOnly) :
    Stopping (fetchPhase exec s.stopping) (fetchPhase exec s) := by
  unfold fetchPhase
  rw [idle_flagOnly (s := s.stopping) h, idle_flagOnly h]
  exact ite_stopping rfl (fetchInstr_stopping s)

theorem interruptCheck_stopping {s : State} {k k' : Bool → State → Out} (h : s.settings.stopMode = .flagOnly)
    (hk : ∀ b m, m.settings = s.settings → Stopping (k b m.stopping) (k' b m)) :
    Stopping (interruptCheck s.stopping k) (interruptCheck s k') := by
  have awake : wakeFromStop (wakeFromHalt s) = wakeFromHalt s := wakeFromStop_flagOnly (by simpa using h)
  have awake' : wakeFromStop (wakeFromHalt s.stopping) = (wakeFromHalt s).stopping := by
    rw [wakeFromHalt_stopping]
    exact wakeFromStop_flagOnly (show (wakeFromHalt s).settings.stopMode = .flagOnly by simpa using h)
  unfold interruptCheck
  rw [awake, awake']
  exact ite_stopping (takeInterrupt_stopping fun m hm => hk true m (by simpa using hm))
    (hk false _ (wakeFromHalt_settings s))

/-- Under `FlagOnly` no phase of the step looks at the stopped flag (R198). -/
theorem cpuStep_stopping {s : State} (h : s.settings.stopMode = .flagOnly) :
    Stopping (cpuStep exec s.stopping) (cpuStep exec s) := by
  have committed : imeCommit s.stopping.beginStep = (imeCommit s.beginStep).stopping := by
    simp only [imeCommit, State.onCpu, State.stopping, State.beginStep, Cpu.commitEi_commitDi_eq]
  unfold cpuStep
  rw [committed]
  refine interruptCheck_stopping h fun b m hm => ?_
  rw [show m.stopping.settings = m.settings from rfl]
  exact ite_stopping rfl (fetchPhase_stopping (hm ▸ h))

theorem step_stopping {s : State} (h : s.settings.stopMode = .flagOnly) : Stopping (step s.stopping) (step s) := by
  unfold step machineStep
  rw [cpuStep_stopping h]
  cases cpuStep exec s with
  | next t => exact congrArg Host.Outcome.next (advance_stopping t)
  | fault f => rfl
  | refused r => rfl

/-! ## The statement -/

/-- Settles O7, by the phases as one update (`awake_eq`), the step that idles, and the step that does not look at the
stopped flag. -/
theorem haltedOrStoppedStepFetchesNothing : Obligations.HaltedOrStoppedStepFetchesNothing := by
  unfold Obligations.HaltedOrStoppedStepFetchesNothing
  refine ⟨awake_eq, ?_, ?_, ?_, ?_, ?_⟩
  · intro s pending
    rw [awake_halted, decide_eq_false pending, Bool.and_false]
  · intro s pending halted
    have still : (awake s).cpu.halted = true := by rw [awake_halted, halted, decide_eq_true pending]; rfl
    rw [step_idle (.inr pending) (by simp [State.idle, still]), ← still, ← awake_pc]
  · intro s stopMode stopped joypad quiet
    have still : (awake s).cpu.stopped = true := by rw [awake_stopped, stopped, joypad, Bool.and_false]; rfl
    rw [step_idle quiet (by simp [State.idle, still, stopMode]), ← still, ← awake_pc]
  · intro s stopMode joypad
    rw [awake_stopped, joypad, decide_eq_true stopMode, Bool.and_true, Bool.not_true, Bool.and_false]
  · intro s flagOnly
    exact step_stopping (s := { s with cpu := { s.cpu with stopped := false } }) flagOnly

end Sys2Proof.Machine
end

section
/-! PROOFS. Which addresses are plain storage, and what a bus write may change of what is read elsewhere (R60, R67, R84,
R87). -/

namespace Sys2Proof.Machine

/-! ## The ranges of the address decoder -/

/-- The first address of an owner's range, and the first after it (R60). -/
def Owner.range : Owner → Nat × Nat
  | .bootOrCart => (0x0000, 0x0100)
  | .cartRom => (0x0100, 0x8000)
  | .vram => (0x8000, 0xA000)
  | .extRam => (0xA000, 0xC000)
  | .wram => (0xC000, 0xE000)
  | .echo => (0xE000, 0xFE00)
  | .oam => (0xFE00, 0xFEA0)
  | .unusable => (0xFEA0, 0xFF00)
  | .io => (0xFF00, 0xFF80)
  | .hram => (0xFF80, 0xFFFF)
  | .ie => (0xFFFF, 0x10000)

theorem ownerOf_range (a : Word) : (ownerOf a).range.1 ≤ a.toNat ∧ a.toNat < (ownerOf a).range.2 := by
  have := a.isLt
  fun_cases ownerOf a <;> simp only [Owner.range] <;> omega

theorem Owner.eq_of_mem_range {o o' : Owner} {n : Nat} (h : o.range.1 ≤ n ∧ n < o.range.2)
    (h' : o'.range.1 ≤ n ∧ n < o'.range.2) : o = o' := by
  cases o <;> cases o' <;> simp only [Owner.range] at h h' <;> first | rfl | omega

/-- The ranges are disjoint, so an address in a range has that range's owner. -/
theorem ownerOf_eq {a : Word} {o : Owner} (h : o.range.1 ≤ a.toNat ∧ a.toNat < o.range.2) : ownerOf a = o :=
  Owner.eq_of_mem_range (ownerOf_range a) h

/-- The I/O addresses without a behaviour of their own (R29, R57). -/
theorem ioRegOf_eq_storage {a : Word} (h : 0xFF00 ≤ a.toNat ∧ a.toNat < 0xFF80) :
    ioRegOf a = .storage ↔ isUnnamedIo a.toNat ∨ isSoundRegister a.toNat := by
  unfold ioRegOf isUnnamedIo isSoundRegister
  split
  case h_22 => simp only [imp_false] at *; simp only [true_iff]; omega
  all_goals simp only [reduceCtorEq, false_iff]; omega

/-- The address of a named I/O register (R56). -/
def IoReg.addr : IoReg → Nat
  | .p1 => 0xFF00
  | .sb => 0xFF01
  | .sc => 0xFF02
  | .div => 0xFF04
  | .tima => 0xFF05
  | .tma => 0xFF06
  | .tac => 0xFF07
  | .ifr => 0xFF0F
  | .lcdc => 0xFF40
  | .stat => 0xFF41
  | .scy => 0xFF42
  | .scx => 0xFF43
  | .ly => 0xFF44
  | .lyc => 0xFF45
  | .dma => 0xFF46
  | .bgp => 0xFF47
  | .obp0 => 0xFF48
  | .obp1 => 0xFF49
  | .wy => 0xFF4A
  | .wx => 0xFF4B
  | .bootOff => 0xFF50
  | .storage => 0

theorem ioRegOf_storage_or_addr (a : Word) : ioRegOf a = .storage ∨ a.toNat = (ioRegOf a).addr := by
  unfold ioRegOf
  split
  case h_22 => exact .inl rfl
  all_goals exact .inr ‹_›

theorem ioRegOf_injective {a b : Word} (named : ioRegOf a ≠ .storage) (h : ioRegOf a = ioRegOf b) : a = b := by
  apply BitVec.eq_of_toNat_eq
  rw [(ioRegOf_storage_or_addr a).resolve_left named, (ioRegOf_storage_or_addr b).resolve_left (h ▸ named), h]

/-! ## Plain storage -/

theorem storageKey_of_ram {a : Word} (h : isRam a.toNat) : storageKey a = some a.toNat := by
  have owner : ownerOf a = .vram ∨ ownerOf a = .wram ∨ ownerOf a = .oam ∨ ownerOf a = .hram := by
    rcases h with h | h | h | h
    · exact .inl (ownerOf_eq ⟨h.1, Nat.lt_succ_of_le h.2⟩)
    · exact .inr (.inl (ownerOf_eq ⟨h.1, Nat.lt_succ_of_le h.2⟩))
    · exact .inr (.inr (.inl (ownerOf_eq ⟨h.1, Nat.lt_succ_of_le h.2⟩)))
    · exact .inr (.inr (.inr (ownerOf_eq ⟨h.1, Nat.lt_succ_of_le h.2⟩)))
  rcases owner with h | h | h | h <;> simp only [storageKey, h]

theorem storageKey_of_io {a : Word} (h : isUnnamedIo a.toNat ∨ isSoundRegister a.toNat) :
    storageKey a = some a.toNat := by
  have range : 0xFF00 ≤ a.toNat ∧ a.toNat < 0xFF80 := by
    unfold isUnnamedIo isSoundRegister at h
    omega
  have owner : ownerOf a = .io := ownerOf_eq range
  simp only [storageKey, owner, (ioRegOf_eq_storage range).mpr h, if_true]

theorem storageKey_of_echo {a : Word} (h : 0xE000 ≤ a.toNat ∧ a.toNat ≤ 0xFDFF) :
    storageKey a = some (a.toNat - 0x2000) := by
  have owner : ownerOf a = .echo := ownerOf_eq ⟨h.1, Nat.lt_succ_of_le h.2⟩
  simp only [storageKey, owner]

/-- The ranges of the addresses that are plain storage (R60, R67). -/
theorem range_of_storageKey {a : Word} {k : Nat} (h : storageKey a = some k) :
    isRam a.toNat ∨ isUnnamedIo a.toNat ∨ isSoundRegister a.toNat ∨ 0xE000 ≤ a.toNat ∧ a.toNat ≤ 0xFDFF := by
  have range := ownerOf_range a
  cases owner : ownerOf a with
  | vram | wram | oam | hram =>
    simp only [owner, Owner.range] at range
    unfold isRam
    omega
  | echo =>
    simp only [owner, Owner.range] at range
    omega
  | io =>
    rw [owner] at range
    have storage : ioRegOf a = .storage := by
      by_contra named
      simp only [storageKey, owner, named, if_false, reduceCtorEq] at h
    have := (ioRegOf_eq_storage range).mp storage
    tauto
  | bootOrCart | cartRom | extRam | unusable | ie =>
    simp only [storageKey, owner, reduceCtorEq] at h

/-- A read of plain storage is a read of the byte under its key. -/
theorem busRead_of_storageKey {a : Word} {k : Nat} (h : storageKey a = some k) (s : State) :
    busRead a s = .ok (s.mem.read k) := by
  unfold storageKey at h
  unfold busRead
  cases owner : ownerOf a with
  | vram | wram | oam | hram | echo =>
    simp only [owner, Option.some.injEq] at h ⊢
    rw [h]
  | io =>
    by_cases storage : ioRegOf a = .storage
    · simp only [owner, storage, if_true, Option.some.injEq] at h ⊢
      simp only [ioRead, h]
    · simp only [owner, storage, if_false, reduceCtorEq] at h
  | bootOrCart | cartRom | extRam | unusable | ie => simp only [owner, reduceCtorEq] at h

/-- A write of plain storage is a write of the byte under its key. -/
theorem busWrite_of_storageKey {a : Word} {k : Nat} (h : storageKey a = some k) (v : Byte) (s : State) :
    busWrite a v s = .ok { s with mem := s.mem.write k v } := by
  unfold storageKey at h
  unfold busWrite
  cases owner : ownerOf a with
  | vram | wram | oam | hram | echo =>
    simp only [owner, Option.some.injEq] at h ⊢
    rw [h]
  | io =>
    by_cases storage : ioRegOf a = .storage
    · simp only [owner, storage, if_true, Option.some.injEq] at h ⊢
      simp only [ioWrite, h]
    · simp only [owner, storage, if_false, reduceCtorEq] at h
  | bootOrCart | cartRom | extRam | unusable | ie => simp only [owner, reduceCtorEq] at h

/-- A read of anything else does not see the plain storage. -/
theorem busRead_setMem {b : Word} (h : storageKey b = none) (s : State) (mem : Memory) :
    busRead b { s with mem := mem } = busRead b s := by
  unfold storageKey at h
  unfold busRead
  cases owner : ownerOf b with
  | vram | wram | oam | hram | echo => simp only [owner, reduceCtorEq] at h
  | io =>
    simp only [owner] at h ⊢
    cases reg : ioRegOf b with
    | storage => simp only [reg, if_true, reduceCtorEq] at h
    | _ => rfl
  | bootOrCart | cartRom | extRam | unusable | ie => rfl

/-! ## What a bus write can do -/

/-- Everything a bus write can have done: a byte of plain storage, the cartridge, IE, a named I/O register, or nothing. -/
inductive BusWritten (a : Word) (v : Byte) (s : State) : State → Prop where
  | storage {k : Nat} (key : storageKey a = some k) : BusWritten a v s { s with mem := s.mem.write k v }
  | cart (owns : cartOwns a = true) (c : Cart) : BusWritten a v s { s with cart := c }
  | ie (owner : ownerOf a = .ie) : BusWritten a v s { s with irq := { s.irq with ie := v } }
  | io (owner : ownerOf a = .io) (named : ioRegOf a ≠ .storage) : BusWritten a v s (ioWrite (ioRegOf a) a v s)
  | ignored : BusWritten a v s s

theorem busWritten_of_busWrite {a : Word} {v : Byte} {s m : State} (h : busWrite a v s = .ok m) : BusWritten a v s m := by
  cases key : storageKey a with
  | some k =>
    rw [busWrite_of_storageKey key] at h
    cases h
    exact .storage key
  | none =>
    unfold storageKey at key
    unfold busWrite at h
    cases owner : ownerOf a with
    | vram | wram | oam | hram | echo => simp only [owner, reduceCtorEq] at key
    | io =>
      have named : ioRegOf a ≠ .storage := fun e => by simp only [owner, e, if_true, reduceCtorEq] at key
      simp only [owner] at h
      cases h
      exact .io owner named
    | bootOrCart | cartRom | extRam =>
      simp only [owner, cartWrite] at h
      split at h
      · cases h
        exact .cart (by simp only [cartOwns, owner]) _
      · cases h
    | unusable => simp only [owner] at h; cases h; exact .ignored
    | ie => simp only [owner] at h; cases h; exact .ie owner

/-- A read of another register does not see the write of a named one. -/
theorem ioRead_ioWrite_other {r q : IoReg} (h : q ≠ r) (named : r ≠ .storage) (a b : Word) (v : Byte) (s : State) :
    ioRead q b (ioWrite r a v s) = ioRead q b s := by
  cases r with
  | storage => exact absurd rfl named
  | sc =>
    have sb : (s.serial.writeSc v).sb = s.serial.sb := by unfold Serial.writeSc; split <;> rfl
    cases q with
    | sc => exact absurd rfl h
    | sb => exact sb
    | _ => rfl
  | _ => cases q <;> first | rfl | exact absurd rfl h

/-- A read outside the I/O page sees of a named I/O register only the overlay's state. -/
theorem busRead_ioWrite_outside {r : IoReg} {b : Word} (owner : ownerOf b ≠ .io) (named : r ≠ .storage)
    (overlay : ownerOf b = .bootOrCart → r ≠ .bootOff) (a : Word) (v : Byte) (s : State) :
    busRead b (ioWrite r a v s) = busRead b s := by
  unfold busRead
  cases hb : ownerOf b with
  | io => exact absurd hb owner
  | bootOrCart =>
    cases r with
    | bootOff => exact absurd rfl (overlay hb)
    | _ => rfl
  | _ =>
    cases r with
    | storage => exact absurd rfl named
    | _ => rfl

/-- A read outside the cartridge does not see it. -/
theorem busRead_setCart {b : Word} (h : cartOwns b = false) (s : State) (c : Cart) :
    busRead b { s with cart := c } = busRead b s := by
  unfold cartOwns at h
  unfold busRead
  cases owner : ownerOf b with
  | bootOrCart | cartRom | extRam => simp [owner] at h
  | io => simp only []; cases ioRegOf b <;> rfl
  | _ => rfl

theorem eq_of_ownerOf_ie {a b : Word} (ha : ownerOf a = .ie) (hb : ownerOf b = .ie) : a = b := by
  have ra := ownerOf_range a
  have rb := ownerOf_range b
  rw [ha] at ra
  rw [hb] at rb
  simp only [Owner.range] at ra rb
  apply BitVec.eq_of_toNat_eq
  omega

theorem busRead_setIe {b : Word} (h : ownerOf b ≠ .ie) (s : State) (v : Byte) :
    busRead b { s with irq := { s.irq with ie := v } } = busRead b s := by
  unfold busRead
  cases owner : ownerOf b with
  | ie => exact absurd owner h
  | io => simp only []; cases ioRegOf b <;> rfl
  | _ => rfl

/-- A bus write changes no read but those it may disturb (R67, R78, R62, R87). -/
theorem busWrite_readsKept {a : Word} {v : Byte} {s m : State} (wf : s.mem.wf = true) (h : busWrite a v s = .ok m) :
    readsKept a s m := by
  intro b undisturbed
  simp only [disturbs, not_or] at undisturbed
  obtain ⟨other, otherByte, notCart, notOverlay⟩ := undisturbed
  cases busWritten_of_busWrite h with
  | storage key =>
    cases hb : storageKey b with
    | none => exact busRead_setMem hb s _
    | some j =>
      have hj : j ≠ _ := fun e => otherByte ⟨by rw [key]; rfl, by rw [hb, key, e]⟩
      rw [busRead_of_storageKey hb, busRead_of_storageKey hb, Memory.read_write_other wf v hj]
  | cart owns c => exact busRead_setCart (Bool.eq_false_iff.mpr fun e => notCart ⟨owns, e⟩) s c
  | ie owner => exact busRead_setIe (fun e => other (eq_of_ownerOf_ie e owner)) s v
  | io owner named =>
    by_cases hb : ownerOf b = .io
    · have reg : ioRegOf b ≠ ioRegOf a := fun e => other (ioRegOf_injective named e.symm).symm
      simp only [busRead, hb, ioRead_ioWrite_other reg named]
    · refine busRead_ioWrite_outside hb named (fun low bootOff => notOverlay ⟨?_, ?_⟩) a v s
      · apply BitVec.eq_of_toNat_eq
        rw [(ioRegOf_storage_or_addr a).resolve_left named, bootOff]
        rfl
      · have range := ownerOf_range b
        rw [low] at range
        exact range.2
  | ignored => rfl

/-- A store to plain storage is read back through every address of its byte. -/
theorem busRead_of_busWrite {a b : Word} {v : Byte} {k : Nat} {s m : State} (wf : s.mem.wf = true)
    (ha : storageKey a = some k) (hb : storageKey b = some k) (h : busWrite a v s = .ok m) : busRead b m = .ok v := by
  rw [busWrite_of_storageKey ha] at h
  cases h
  rw [busRead_of_storageKey hb, Memory.read_write_same wf]

/-- Settles O18: the ranges give the keys, and `busWritten_of_busWrite` what a store changed. -/
theorem storeChangesOnlyItsByte : Obligations.StoreChangesOnlyItsByte := by
  unfold Obligations.StoreChangesOnlyItsByte
  constructor
  · intro a
    refine ⟨?_, storageKey_of_echo, fun plain echo => ?_⟩
    · rintro (ram | io)
      · exact storageKey_of_ram ram
      · exact storageKey_of_io io
    · by_contra key
      obtain ⟨k, hk⟩ := Option.ne_none_iff_exists'.mp key
      have := range_of_storageKey hk
      tauto
  · intro a v s m wf h
    obtain ⟨cpu, cycles, undefLog⟩ := busWrite_cpu h
    exact ⟨busWrite_readsKept wf h, busWrite_memWf h wf, cpu, cycles, undefLog,
      fun b k ha hb => busRead_of_busWrite wf ha hb h⟩

end Sys2Proof.Machine
end

section
/-! PROOFS. What a write to a device register stores (R31, R32, R35 to R46), and what the operand forms of the ALU
operations share (R148). -/

namespace Sys2Proof.Machine

/-! ## The device registers -/

/-- A STAT write stores bits 7 to 3 (R41). -/
theorem stat_write_high (v old : Byte) : ((v &&& 0xF8) ||| (old &&& 0x07)).extractLsb' 3 5 = v.extractLsb' 3 5 := by
  ext i hi
  interval_cases i <;> simp

/-- Settles O21: each access is one arm of the I/O map, and STAT's bits are those of `stat_write_low` and
`stat_write_high`. -/
theorem statLyIeAndIfWrites : Obligations.StatLyIeAndIfWrites := by
  unfold Obligations.StatLyIeAndIfWrites
  intro v s
  exact ⟨⟨_, rfl, stat_write_high _ _, stat_write_low _ _⟩, rfl, rfl, rfl, rfl, rfl, rfl, rfl⟩

/-- Settles O60: each of the 13 addresses is the arm of one register in the I/O map, for the write and for the read. -/
theorem storedDeviceRegistersHoldTheByte : Obligations.StoredDeviceRegistersHoldTheByte := by
  unfold Obligations.StoredDeviceRegistersHoldTheByte
  intro v s
  and_intros <;> rfl

/-! ## The ALU operations -/

theorem encode_alu (op : AluOp) (src : AluSrc) : encode (Instr.alu op src) = aluBytes op.field src := by
  rcases src with (⟨⟨⟩⟩ | ⟨⟩) | ⟨⟩ <;> cases op <;> rfl

/-- The CPU after an ALU operation on the operand value `v` (R148). -/
def Cpu.afterAlu (c : Cpu) (op : AluOp) (v : Byte) : Cpu :=
  let r := aluOut op c.a v c.flags.c
  { c with a := r.val }.setFlags r.fl

/-- An ALU operation sees of its operand only the value. -/
theorem exec_alu_after {op : AluOp} {src : AluSrc} {s : State} {v : Byte} (h : aluSrcHolds src s v) :
    exec (Instr.alu op src) s = .next (s.after (s.cpu.afterAlu op v) (aluCycles src)) := by
  rw [exec_alu]
  unfold aluAcc
  rw [aluOperand_eq h]
  rfl

/-- The flags a write of F leaves in bits 7 to 4 (R18). -/
theorem Flags.toByte_bits (fl : Flags) (old : Byte) :
    (fl.toByte old).getLsbD 7 = fl.z ∧ (fl.toByte old).getLsbD 6 = fl.n ∧ (fl.toByte old).getLsbD 5 = fl.h ∧
      (fl.toByte old).getLsbD 4 = fl.c := by
  have h := Flags.ofByte_toByte fl old
  exact ⟨congrArg Flags.z h, congrArg Flags.n h, congrArg Flags.h h, congrArg Flags.c h⟩

/-- Settles O38: each form runs the operation on its operand's value (`exec_alu_after`), the immediate form among them. -/
theorem aluOperandForms : Obligations.AluOperandForms := by
  unfold Obligations.AluOperandForms
  constructor
  · intro op src s v holds
    exact ⟨encode_alu op src, s.cpu.afterAlu op v, exec_alu_after (src := .imm v) rfl, exec_alu_after holds⟩
  · intro c fl
    obtain ⟨z, n, h, carry⟩ := fl.toByte_bits c.f
    exact ⟨_, rfl, z, n, h, carry, Flags.toByte_low _ _⟩

end Sys2Proof.Machine
end

section
/-! PROOFS. What a PPU tick that is not frozen writes into STAT and requests (R221, R230, R231, R236). -/

namespace Sys2Proof.Machine

/-! ## STAT -/

theorem Ppu.setStatLow_stat (p : Ppu) (coincidence : Bool) (mode : BitVec 2) :
    let stat := (p.setStatLow coincidence mode).stat
    stat.extractLsb' 0 2 = mode ∧ stat.getLsbD 2 = coincidence ∧ stat.extractLsb' 3 5 = p.stat.extractLsb' 3 5 := by
  have bit : ∀ i, (p.setStatLow coincidence mode).stat.getLsbD i =
      (p.stat.extractLsb' 3 5 ++ (BitVec.ofBool coincidence ++ mode) : BitVec (5 + (1 + 2))).getLsbD i := fun _ => rfl
  simp only [BitVec.getLsbD_append] at bit
  refine ⟨?_, ?_, ?_⟩
  · ext i hi
    rw [BitVec.getElem_extractLsb', bit]
    simp [hi, show i < 3 by omega]
  · rw [bit]
    simp
  · ext i hi
    rw [BitVec.getElem_extractLsb', bit]
    simp [hi]

/-- The mode is one of the four conditions of R48. -/
theorem ppuMode_conditions (ly dot : Nat) (lcdOn : Bool) :
    let m := ppuMode ly dot lcdOn
    decide (m = .hblank) = decide (ly < 144 ∧ 252 ≤ dot) ∧ decide (m = .vblank) = decide (144 ≤ ly) ∧
      decide (m = .draw) = (decide (ly < 144 ∧ 80 ≤ dot ∧ dot < 252) && lcdOn) := by
  unfold ppuMode
  by_cases vblank : 144 ≤ ly
  · simp [vblank, show ¬ ly < 144 by omega]
  by_cases scan : dot < 80
  · simp [vblank, scan, show ¬ 252 ≤ dot by omega, show ¬ 80 ≤ dot by omega]
  by_cases draw : dot < 252
  · simp [vblank, scan, draw, show ¬ 252 ≤ dot by omega, show ly < 144 by omega, show 80 ≤ dot by omega]
    cases lcdOn <;> simp
  · simp [vblank, scan, draw, show 252 ≤ dot by omega, show ly < 144 by omega]

theorem PpuMode.code_eq (m : PpuMode) :
    m.code = if decide (m = .hblank) then 0b00 else if decide (m = .vblank) then 0b01
      else if decide (m = .draw) then 0b11 else 0b10 := by
  cases m <;> rfl

theorem PpuMode.oamScan_eq (m : PpuMode) :
    decide (m = .oamScan) = (!decide (m = .hblank) && !decide (m = .vblank) && !decide (m = .draw)) := by
  cases m <;> rfl

/-! ## Requests -/

theorem Irq.request_bit (q : Irq) {k i : Nat} (hi : i < 8) (b : Bool) :
    (if b then q.request k else q).ifr.getLsbD i = (q.ifr.getLsbD i || (b && decide (i = k))) := by
  cases b with
  | false => simp
  | true =>
    simp only [Irq.request, if_true, BitVec.getLsbD_or, Bool.true_and]
    rw [show (1 : Byte) = 1#8 from rfl, BitVec.getLsbD_shiftLeft, BitVec.getLsbD_one, Bool.eq_iff_iff]
    simp only [Bool.or_eq_true, Bool.and_eq_true, Bool.not_eq_true', decide_eq_true_eq, decide_eq_false_iff_not]
    exact or_congr_right (by omega)

/-! ## The tick -/

/-- What a running tick asks of the rest of the machine (R221, R231, R236). -/
theorem Ppu.tick_events {st : Settings} {mem : Memory} {p : Ppu}
    (h : ¬ (st.lcdOff = .frozenAtLine0 ∧ p.lcdOn = false)) :
    (p.tick st mem).2 =
      { vblank := decide (p.advance.ly = 144 ∧ p.advance.dot = 0)
        stat := (p.tick st mem).1.statLine && (decide (st.statIrqMode = .level) || !p.statLine)
        frameEnd := decide (p.ly = 153 ∧ p.advance.ly = 0) } := by
  unfold Ppu.tick
  rw [if_neg h]

/-- The position after a running tick, and what the tick wrote into STAT from it (R230, R231). -/
theorem Ppu.tick_status {st : Settings} {mem : Memory} {p : Ppu}
    (h : ¬ (st.lcdOff = .frozenAtLine0 ∧ p.lcdOn = false)) :
    let q := (p.tick st mem).1
    let m := ppuMode p.advance.ly p.advance.dot p.lcdOn
    q.ly = p.advance.ly ∧ q.dot = p.advance.dot ∧ q.stat.extractLsb' 0 2 = m.code ∧
      q.stat.getLsbD 2 = decide (p.advance.ly = p.lyc.toNat) ∧ q.stat.extractLsb' 3 5 = p.stat.extractLsb' 3 5 ∧
      q.statLine = ((p.stat.getLsbD 3 && decide (m = .hblank)) || (p.stat.getLsbD 4 && decide (m = .vblank)) ||
        (p.stat.getLsbD 5 && decide (m = .oamScan)) || (p.stat.getLsbD 6 && decide (p.advance.ly = p.lyc.toNat))) := by
  intro q m
  obtain ⟨lcdOn, lyc, stat⟩ : p.advance.lcdOn = p.lcdOn ∧ p.advance.lyc = p.lyc ∧ p.advance.stat = p.stat := by
    obtain ⟨_, _, e⟩ := p.advance_eq
    rw [e]
    exact ⟨rfl, rfl, rfl⟩
  have tick := Ppu.tick_running (mem := mem) h
  rw [lcdOn, lyc] at tick
  have kept := p.advance.actAt_statInputs st.fetchPhase mem m
  obtain ⟨low, coincidence, high⟩ :=
    (p.advance.actAt st.fetchPhase mem m).setStatLow_stat (decide (p.advance.ly = p.lyc.toNat)) m.code
  rw [kept.stat, stat] at high
  have bit : ∀ i, i < 5 → ((p.advance.actAt st.fetchPhase mem m).setStatLow (decide (p.advance.ly = p.lyc.toNat))
      m.code).stat.getLsbD (3 + i) = p.stat.getLsbD (3 + i) := fun i hi => by
    simpa only [BitVec.getLsbD_extractLsb', hi, decide_true, Bool.true_and] using congrArg (·.getLsbD i) high
  have line : q.statLine = _ := congrArg Ppu.statLine tick
  unfold Ppu.statCondition at line
  rw [bit 0 (by omega), bit 1 (by omega), bit 2 (by omega), bit 3 (by omega)] at line
  change q.statLine = (_ || (_ && decide ((p.advance.actAt st.fetchPhase mem m).ly =
    (p.advance.actAt st.fetchPhase mem m).lyc.toNat))) at line
  rw [kept.ly, kept.lyc, lyc] at line
  refine ⟨?_, ?_, ?_, ?_, ?_, line⟩
  all_goals rw [show q = _ from tick]
  · exact kept.ly
  · exact kept.dot
  · exact low
  · exact coincidence
  · exact high

/-- The interrupt requests of a tick, bit by bit (R221, R231). -/
theorem ppuTick_ifr (s : State) {i : Nat} (hi : i < 8) :
    (ppuTick s).irq.ifr.getLsbD i = (s.irq.ifr.getLsbD i || ((s.ppu.tick s.settings s.mem).2.vblank && decide (i = 0)) ||
      ((s.ppu.tick s.settings s.mem).2.stat && decide (i = 1))) := by
  unfold ppuTick
  dsimp only
  rw [Irq.request_bit _ hi, Irq.request_bit _ hi]

theorem Irq.request_ie (q : Irq) (k : Nat) (b : Bool) : (if b then q.request k else q).ie = q.ie := by cases b <;> rfl

/-- Settles O57: `Ppu.tick_status` and `Ppu.tick_events` at the new position, with the mode taken apart into the
conditions of R48. -/
theorem ppuTickStatusAndRequests : Obligations.PpuTickStatusAndRequests := by
  unfold Obligations.PpuTickStatusAndRequests
  intro s runs _ _ t ly dot hblank vblank draw scan cond
  obtain ⟨hly, hdot, low, coincidence, high, line⟩ := Ppu.tick_status (mem := s.mem) runs
  obtain ⟨isHblank, isVblank, isDraw⟩ := ppuMode_conditions s.ppu.advance.ly s.ppu.advance.dot s.ppu.lcdOn
  rw [← hly, ← hdot] at isHblank isVblank isDraw
  rw [← hly, ← hdot, PpuMode.code_eq, isHblank, isVblank, isDraw] at low
  rw [← hly] at coincidence
  rw [← hly, ← hdot, PpuMode.oamScan_eq, isHblank, isVblank, isDraw] at line
  have events := Ppu.tick_events (mem := s.mem) runs
  rw [← hly, ← hdot, line] at events
  have ifr : ∀ i, i < 8 → t.irq.ifr.getLsbD i =
      (s.irq.ifr.getLsbD i || (decide (ly = 144 ∧ dot = 0) && decide (i = 0)) ||
      (cond && (decide (s.settings.statIrqMode = .level) || !s.ppu.statLine) && decide (i = 1))) := fun i hi => by
    rw [ppuTick_ifr s hi, events]
    rfl
  refine ⟨low, coincidence, high, line, ?_, ?_, ?_, ?_, ?_⟩
  · rw [ifr 0 (by omega)]
    simp
  · rw [ifr 1 (by omega), Bool.or_comm (!s.ppu.statLine)]
    simp
  · ext i hi
    rw [BitVec.getElem_extractLsb', BitVec.getElem_extractLsb', ifr (2 + i) (by omega),
      decide_eq_false (show 2 + i ≠ 0 by omega), decide_eq_false (show 2 + i ≠ 1 by omega)]
    simp only [Bool.and_false, Bool.or_false]
  · exact (Irq.request_ie _ _ _).trans (Irq.request_ie _ _ _)
  · change (s.frameDone || (s.ppu.tick s.settings s.mem).2.frameEnd) = _
    rw [events]
    rfl

end Sys2Proof.Machine
end

section
/-! PROOFS. The state after reset, and the memory that `P_RAM_INIT` makes (R27 to R29, R38, R39, R57, R241). -/

namespace Sys2Proof.Machine

/-! ## The reset memory -/

/-- One pair of `P_RAM_INIT`: `Memory.ofRamInit` is its fold. -/
def Memory.ramInitStep (m : Memory) (c : Host.Cell) : Memory := if isRamInitKey c.1 then m.write c.1 c.2 else m

theorem Memory.wf_ramInitStep {m : Memory} (hm : m.wf = true) (c : Host.Cell) : (m.ramInitStep c).wf = true := by
  unfold Memory.ramInitStep
  split
  · next h =>
    rw [isRamInitKey, Bool.and_eq_true] at h
    exact Memory.wf_write hm c.2 h.1
  · exact hm

theorem Memory.read_ramInitStep {m : Memory} (hm : m.wf = true) (c : Host.Cell) (k : Nat) :
    (m.ramInitStep c).read k = if isRamInitKey k ∧ k = c.1 then c.2 else m.read k := by
  unfold Memory.ramInitStep
  by_cases init : isRamInitKey c.1 = true
  · rw [if_pos init]
    by_cases hk : k = c.1
    · rw [if_pos ⟨hk ▸ init, hk⟩, hk, Memory.read_write_same hm]
    · rw [if_neg fun h => hk h.2, Memory.read_write_other hm c.2 hk]
  · rw [if_neg init, if_neg fun ⟨h, hk⟩ => init (hk ▸ h)]

/-- The last pair for a key counts; a key that `P_RAM_INIT` does not reach keeps its byte. -/
theorem Memory.read_foldl_ramInitStep {m : Memory} (hm : m.wf = true) (cells : List Host.Cell) (k : Nat) :
    (cells.foldl Memory.ramInitStep m).read k =
      if isRamInitKey k then (cells.reverse.lookup k).getD (m.read k) else m.read k := by
  induction cells generalizing m with
  | nil => simp
  | cons c rest ih =>
    obtain ⟨k', v⟩ := c
    have last : List.lookup k [(k', v)] = if k = k' then some v else none := by
      by_cases hk : k = k'
      · simp [hk]
      · simp [List.lookup, hk, beq_eq_false_iff_ne.mpr hk]
    rw [List.foldl_cons, ih (Memory.wf_ramInitStep hm _), Memory.read_ramInitStep hm, List.reverse_cons,
      List.lookup_append, last]
    split
    · next init =>
      by_cases hk : k = k'
      · rw [if_pos hk, if_pos ⟨init, hk⟩]
        cases rest.reverse.lookup k <;> rfl
      · rw [if_neg hk, if_neg fun h => hk h.2, Option.or_none]
    · next init => exact if_neg fun h => init h.1

theorem Memory.read_ofRamInit (cells : List Host.Cell) (k : Nat) :
    (Memory.ofRamInit cells).read k =
      if isRamInitKey k then (cells.reverse.lookup k).getD (Memory.unlisted k) else Memory.unlisted k :=
  Memory.read_foldl_ramInitStep (m := []) rfl cells k

/-- Outside the sound registers a byte that nothing has written reads as 0x00 (R27 to R29). -/
theorem Memory.unlisted_eq_zero {k : Nat} (h : ¬ isSoundRegister k) : Memory.unlisted k = 0x00 := by
  unfold isSoundRegister at h
  unfold Memory.unlisted
  split <;> first | omega | rfl


/-! ## What a reset machine reads -/

/-- The RAMs and the unnamed I/O bytes are the keys that `P_RAM_INIT` fills. -/
theorem isRamInitKey_of_ram {a : Word} (h : isRam a.toNat ∨ isUnnamedIo a.toNat) :
    storageKey a = some a.toNat ∧ isRamInitKey a.toNat = true ∧ ¬ isSoundRegister a.toNat := by
  have silent : ¬ isSoundRegister a.toNat := by
    unfold isRam isUnnamedIo at h
    unfold isSoundRegister
    omega
  have key : storageKey a = some a.toNat := h.elim storageKey_of_ram fun io => storageKey_of_io (.inl io)
  refine ⟨key, ?_, silent⟩
  unfold isSoundRegister at silent
  rw [isRamInitKey, isStorageKey_of_storageKey key, ← Bool.decide_and, decide_eq_false silent]
  rfl

theorem busRead_reset_ram (p : PowerOn) (cart : Cart) {a : Word} (h : isRam a.toNat ∨ isUnnamedIo a.toNat) :
    busRead a (State.atReset p cart) = .ok ((p.ramInit.reverse.lookup a.toNat).getD 0x00) := by
  obtain ⟨key, init, silent⟩ := isRamInitKey_of_ram h
  rw [busRead_of_storageKey key]
  change Except.ok ((Memory.ofRamInit p.ramInit).read a.toNat) = _
  rw [Memory.read_ofRamInit, if_pos init, Memory.unlisted_eq_zero silent]

theorem busRead_reset_sound (p : PowerOn) (cart : Cart) {a : Word} (h : isSoundRegister a.toNat) :
    busRead a (State.atReset p cart) = .ok (Memory.unlisted a.toNat) := by
  have silent : ¬ isRamInitKey a.toNat = true := by
    unfold isSoundRegister at h
    simp [isRamInitKey, h]
  rw [busRead_of_storageKey (storageKey_of_io (.inr h))]
  change Except.ok ((Memory.ofRamInit p.ramInit).read a.toNat) = _
  rw [Memory.read_ofRamInit, if_neg silent]

/-- Settles O26: the registers are written out in the units' reset values, and the memory is `P_RAM_INIT` over R57's
values. -/
theorem resetValues : Obligations.ResetValues := by
  unfold Obligations.ResetValues
  intro p cart
  refine ⟨_, rfl, rfl, rfl, rfl, rfl, rfl, rfl, rfl, rfl, rfl, rfl, rfl, rfl, rfl, rfl, rfl, rfl, rfl, ⟨rfl, rfl, rfl, rfl⟩,
    rfl, fun _ _ => rfl, rfl, congrArg Except.ok (by decide : Joypad.atReset.p1 = 0xCF), rfl, fun k hk => ?_,
    fun a ha => busRead_reset_ram p cart ha, rfl, rfl, rfl, rfl⟩
  have sound : isSoundRegister (BitVec.ofNat 16 (0xFF10 + k)).toNat := by
    unfold isSoundRegister
    rw [BitVec.toNat_ofNat, Nat.mod_eq_of_lt (by omega)]
    omega
  rw [busRead_reset_sound p cart sound]
  interval_cases k <;> rfl

end Sys2Proof.Machine
end

section
/-! PROOFS. What can stop an instruction and a step: only a bus access that must reach the cartridge when there is none
(R79, R120, R213). No access inserts or removes a cartridge, so a machine that has one never stops. First, what an
instruction keeps of the units (R86, R119). -/

namespace Sys2Proof.Machine

/-! ## The units -/

/-- Settles O16: an instruction is a chain of updates that each keep the units (`unitsKept_of_moves`). -/
theorem instructionsKeepTheUnits : Obligations.InstructionsKeepTheUnits := by
  unfold Obligations.InstructionsKeepTheUnits
  exact fun i s t h => exec_unitsKept i s t h

/-! ## Faults -/

/-- `o` is no refusal, and a fault only for want of a cartridge: `present` says whether the machine has one. -/
def StopsOnlyWithoutCart (present : Bool) : Out → Prop
  | .next _ => True
  | .fault f => f = .noCartridge ∧ present = false
  | .refused _ => False

theorem Cart.present_eq_false {c : Cart} : c.present = false ↔ c = .absent := by
  cases c <;> simp [Cart.present]

theorem Cart.present_eq_isSome_image (c : Cart) : c.present = c.image?.isSome := by cases c <;> rfl

/-- A machine with a cartridge answers a next state. -/
theorem StopsOnlyWithoutCart.next {o : Out} (h : StopsOnlyWithoutCart true o) : ∃ t, o = .next t := by
  cases o with
  | next t => exact ⟨t, rfl⟩
  | fault f => exact absurd h.2 (by decide)
  | refused r => exact h.elim

theorem StopsOnlyWithoutCart.fault {c : Cart} {o : Out} {f : Fault} (h : StopsOnlyWithoutCart c.present o)
    (e : o = .fault f) : f = .noCartridge ∧ c = .absent := by
  subst e
  exact ⟨h.1, Cart.present_eq_false.mp h.2⟩

theorem StopsOnlyWithoutCart.not_refused {p : Bool} {o : Out} {r : Refusal} (h : StopsOnlyWithoutCart p o) :
    o ≠ .refused r := by
  rintro rfl
  exact h

/-! ## The shared operations

Each stops only without a cartridge if what follows it does, in every state that has a cartridge exactly when this one
has (`p`). -/

section
variable {p : Bool} {s : State}

theorem stops_finish (p : Bool) (n : Nat) (s : State) : StopsOnlyWithoutCart p (finish n s) := trivial

theorem stops_ite {c : Prop} [Decidable c] {o o' : Out} (h : StopsOnlyWithoutCart p o) (h' : StopsOnlyWithoutCart p o') :
    StopsOnlyWithoutCart p (if c then o else o') := by split <;> assumption

theorem stops_withRead {a : Word} {k : Byte → Out} (hs : s.cart.present = p) (h : ∀ v, StopsOnlyWithoutCart p (k v)) :
    StopsOnlyWithoutCart p (withRead a s k) := by
  cases hr : busRead a s with
  | ok v => rw [withRead_eq hr]; exact h v
  | error f =>
    obtain ⟨noCartridge, absent, -⟩ := busRead_error hr
    rw [withRead_fault hr, ← hs]
    exact ⟨noCartridge, Cart.present_eq_false.mpr absent⟩

theorem stops_withWrite {a : Word} {v : Byte} {k : State → Out} (hs : s.cart.present = p)
    (h : ∀ m : State, m.cart.present = p → StopsOnlyWithoutCart p (k m)) : StopsOnlyWithoutCart p (withWrite a v s k) := by
  cases hw : busWrite a v s with
  | ok m => rw [withWrite_eq hw]; exact h m ((busWrite_present hw).trans hs)
  | error f =>
    obtain ⟨noCartridge, absent, -⟩ := busWrite_error hw
    rw [withWrite_fault hw, ← hs]
    exact ⟨noCartridge, Cart.present_eq_false.mpr absent⟩

theorem stops_push16 {v : Word} {k : State → Out} (hs : s.cart.present = p)
    (h : ∀ m : State, m.cart.present = p → StopsOnlyWithoutCart p (k m)) : StopsOnlyWithoutCart p (push16 v s k) :=
  stops_withWrite hs fun _ hm => stops_withWrite hm h

theorem stops_pop16 {k : Word → State → Out} (hs : s.cart.present = p)
    (h : ∀ (v : Word) (m : State), StopsOnlyWithoutCart p (k v m)) : StopsOnlyWithoutCart p (pop16 s k) :=
  stops_withRead hs fun _ => stops_withRead hs fun _ => h _ _

theorem stops_fetch8 {k : Byte → State → Out} (hs : s.cart.present = p)
    (h : ∀ v (m : State), m.cart.present = p → StopsOnlyWithoutCart p (k v m)) : StopsOnlyWithoutCart p (fetch8 s k) :=
  stops_withRead hs fun v => h v _ hs

theorem stops_readLoc {x : Loc} {k : Byte → Out} (hs : s.cart.present = p) (h : ∀ v, StopsOnlyWithoutCart p (k v)) :
    StopsOnlyWithoutCart p (readLoc x s k) := by
  cases x with
  | reg r => exact h _
  | atHl => exact stops_withRead hs h

theorem stops_writeLoc {x : Loc} {v : Byte} {k : State → Out} (hs : s.cart.present = p)
    (h : ∀ m : State, StopsOnlyWithoutCart p (k m)) : StopsOnlyWithoutCart p (writeLoc x v s k) := by
  cases x with
  | reg r => exact h _
  | atHl => exact stops_withWrite hs fun m _ => h m

theorem stops_modifyLoc {x : Loc} {g : Byte → Byte} {k : Byte → State → Out} (hs : s.cart.present = p)
    (h : ∀ v (m : State), StopsOnlyWithoutCart p (k v m)) : StopsOnlyWithoutCart p (modifyLoc x g s k) :=
  stops_readLoc hs fun v => stops_writeLoc hs (h v)

theorem stops_aluOperand {src : AluSrc} {k : Byte → Out} (hs : s.cart.present = p)
    (h : ∀ v, StopsOnlyWithoutCart p (k v)) : StopsOnlyWithoutCart p (aluOperand src s k) := by
  cases src with
  | loc x => exact stops_readLoc hs h
  | imm n => exact h n

/-! ## The instruction -/

theorem stops_callTo (hs : s.cart.present = p) (target : Word) (n : Nat) : StopsOnlyWithoutCart p (callTo target n s) :=
  stops_push16 hs fun _ _ => stops_finish p _ _

theorem stops_retFrom (hs : s.cart.present = p) (n : Nat) : StopsOnlyWithoutCart p (retFrom n s) :=
  stops_pop16 hs fun _ _ => stops_finish p _ _

theorem stops_reti (hs : s.cart.present = p) : StopsOnlyWithoutCart p (execReti s) := by
  unfold execReti returnFromInterrupt
  exact stops_pop16 hs fun _ _ => stops_finish p _ _

theorem PlainForm.stops {o : Out} (hs : s.cart.present = p) (h : PlainForm s o) : StopsOnlyWithoutCart p o := by
  cases h with
  | ldRegReg | ldRegImm | ldPairImm | ldHlSpOffset | ldSpHl | onAcc | scf | ccf | addHlPair | stepPair | addSpOffset
  | rotateAcc | jump | nop | undefined => exact stops_finish p _ _
  | jpIf | jrIf => exact stops_ite (stops_finish p _ _) (stops_finish p _ _)
  | ldRegHl | ldAHlStep | ldAFrom => exact stops_withRead hs fun _ => stops_finish p _ _
  | aluAcc => exact stops_aluOperand hs fun _ => stops_finish p _ _
  | bitLoc => exact stops_readLoc hs fun _ => stops_finish p _ _
  | shiftLoc | incLoc | decLoc | resLoc | setLoc => exact stops_modifyLoc hs fun _ _ => stops_finish p _ _
  | ldHlReg | stAAt | storeHlImm | stAHlStep => exact stops_withWrite hs fun _ _ => stops_finish p _ _
  | storeSp => exact stops_withWrite hs fun _ hm => stops_withWrite hm fun _ _ => stops_finish p _ _
  | pushPair => exact stops_push16 hs fun _ _ => stops_finish p _ _
  | popPair => exact stops_pop16 hs fun _ _ => stops_finish p _ _
  | callTo target n => exact stops_callTo hs target n
  | retFrom n => exact stops_retFrom hs n
  | callIf _ nn => exact stops_ite (stops_callTo hs nn 24) (stops_finish p _ _)
  | retIf => exact stops_ite (stops_retFrom hs 20) (stops_finish p _ _)

theorem stops_exec (hs : s.cart.present = p) (i : Instr) : StopsOnlyWithoutCart p (exec i s) := by
  by_cases reti : i = .reti
  · subst reti; exact stops_reti hs
  by_cases ei : i = .ei
  · subst ei; exact stops_finish p _ _
  by_cases di : i = .di
  · subst di; exact stops_finish p _ _
  by_cases halt : i = .halt
  · subst halt; exact stops_finish p _ _
  by_cases stop : i = .stop
  · subst stop; exact stops_finish p _ _
  · exact (exec_plain reti ei di halt stop s).stops hs

/-! ## The step -/

theorem stops_interruptCheck {k : Bool → State → Out} (hs : s.cart.present = p)
    (h : ∀ b (m : State), m.cart.present = p → StopsOnlyWithoutCart p (k b m)) :
    StopsOnlyWithoutCart p (interruptCheck s k) := by
  have awake : (wakeFromStop (wakeFromHalt s)).cart.present = p := by
    obtain ⟨halted, stopped, e⟩ := wake_eq s
    rw [e]
    exact hs
  exact stops_ite (stops_push16 awake fun m hm => h true _ hm) (h false _ awake)

theorem stops_fetchInstr (hs : s.cart.present = p) : StopsOnlyWithoutCart p (fetchInstr s exec) := by
  refine stops_fetch8 hs fun op s1 h1 => ?_
  cases Decode.primary op with
  | done i => exact stops_exec h1 i
  | imm8 f => exact stops_fetch8 h1 fun n s2 h2 => stops_exec h2 (f n)
  | imm16 f => exact stops_fetch8 h1 fun lo s2 h2 => stops_fetch8 h2 fun hi s3 h3 => stops_exec h3 _

theorem stops_cpuStep (hs : s.cart.present = p) : StopsOnlyWithoutCart p (cpuStep exec s) :=
  stops_interruptCheck hs fun _ _ hm => stops_ite trivial (stops_ite (stops_finish p _ _) (stops_fetchInstr hm))

theorem StopsOnlyWithoutCart.onNext {o : Out} (h : StopsOnlyWithoutCart p o) (g : State → State) :
    StopsOnlyWithoutCart p (onNext g o) := by
  cases o <;> exact h

theorem stops_step (hs : s.cart.present = p) : StopsOnlyWithoutCart p (step s) := (stops_cpuStep hs).onNext advance

end

/-- Settles O10: every access that fails fails for want of a cartridge (`stops_withRead`, `stops_withWrite`), and nothing
else stops a form, an instruction or a phase of the step. -/
theorem onlyAnAbsentCartridgeStops : Obligations.OnlyAnAbsentCartridgeStops := by
  unfold Obligations.OnlyAnAbsentCartridgeStops
  exact ⟨fun i s _ h => (stops_exec rfl i).fault h, fun s _ h => (stops_step rfl).fault h,
    fun i s r => ⟨(stops_exec (s := s) rfl i).not_refused, (stops_step (s := s) rfl).not_refused⟩⟩

/-! ## Runs -/

/-- No step inserts or removes a cartridge. -/
theorem step_present {s t : State} (h : step s = .next t) : t.cart.present = s.cart.present := by
  obtain ⟨-, image, -⟩ := stepsKeepTheParameters s t h
  rw [Cart.present_eq_isSome_image, Cart.present_eq_isSome_image, image]

theorem step_next_of_present {s : State} (h : s.cart.present = true) : ∃ t, step s = .next t ∧ t.cart.present = true := by
  obtain ⟨t, ht⟩ := (stops_step h).next
  exact ⟨t, ht, (step_present ht).trans h⟩

theorem runHost_machineStep {s t : State} (h : step s = .next t) (rest : List HostAction) :
    runHost (.machineStep :: rest) s = runHost rest t := by
  simp only [runHost, HostAction.run, h]

/-- Settles O11, by induction on the number of steps: a step with a cartridge answers a next state that has one. -/
theorem cartridgeMachineNeverStops : Obligations.CartridgeMachineNeverStops := by
  unfold Obligations.CartridgeMachineNeverStops
  intro s present n
  induction n generalizing s with
  | zero => exact ⟨s, rfl, present⟩
  | succ n ih =>
    obtain ⟨u, hu, presentAfter⟩ := step_next_of_present present
    rw [List.replicate_succ, runHost_machineStep hu]
    exact ih u presentAfter

end Sys2Proof.Machine
end

section
/-! PROOFS. The fetch of an instruction as a function of the bytes at PC (R116, R117), the step that fetches, and the
step that first takes an interrupt (R111, R114, R205, R209). -/

namespace Sys2Proof.Machine

/-! ## The fetch -/

/-- The instruction that a fetch makes of bytes, byte `k` being `b k`, and how many of them it reads. -/
def fetchOf (b : Nat → Byte) : Instr × Nat :=
  match Decode.primary (b 0) with
  | .done i => (i, 1)
  | .imm8 f => (f (b 1), 2)
  | .imm16 f => (f (Word.ofBytes (b 2) (b 1)), 3)

theorem fetch8_jump {s : State} {v : Byte} {n : Nat} {k : Byte → State → Out} {pc : Word}
    (h : busRead (pc + BitVec.ofNat 16 n) s = .ok v) :
    fetch8 (s.jump (pc + BitVec.ofNat 16 n)) k = k v (s.jump (pc + BitVec.ofNat 16 (n + 1))) := by
  have next : pc + BitVec.ofNat 16 n + 1 = pc + BitVec.ofNat 16 (n + 1) := by
    rw [BitVec.ofNat_add, BitVec.add_assoc]
    rfl
  rw [fetch8_eq (show busRead _ (s.jump _) = .ok v from h), ← next]
  rfl

/-- A fetch reads the bytes at PC one after another and leaves PC past them. -/
theorem fetchInstr_eq {s : State} {b : Nat → Byte} (k : Instr → State → Out)
    (h : ∀ j, j < (fetchOf b).2 → busRead (s.cpu.pc + BitVec.ofNat 16 j) s = .ok (b j)) :
    fetchInstr s k = k (fetchOf b).1 (s.jump (s.cpu.pc + BitVec.ofNat 16 (fetchOf b).2)) := by
  have start : s = s.jump (s.cpu.pc + BitVec.ofNat 16 0) := by
    rw [BitVec.add_zero]
    rfl
  have opcode : 0 < (fetchOf b).2 := by
    unfold fetchOf
    split <;> exact Nat.succ_pos _
  conv_lhs => rw [start]
  unfold fetchInstr
  rw [fetch8_jump (h 0 opcode)]
  cases hop : Decode.primary (b 0) with
  | done i => simp only [fetchOf, hop]
  | imm8 f =>
    simp only [fetchOf, hop] at h ⊢
    rw [fetch8_jump (h 1 (by decide))]
  | imm16 f =>
    simp only [fetchOf, hop, fetch16] at h ⊢
    rw [fetch8_jump (h 1 (by decide)), fetch8_jump (h 2 (by decide))]

theorem fetchOf_byte {i : Instr} {op n : Byte} {f : Byte → Instr} (bytes : encode i = [op, n])
    (hop : Decode.primary op = .imm8 f) : fetchOf (fun k => (encode i).getD k 0) = (f n, 2) := by
  simp only [fetchOf, bytes, List.getD_cons_zero, List.getD_cons_succ, hop]

theorem fetchOf_word {i : Instr} {op : Byte} {nn : Word} {f : Word → Instr} (bytes : encode i = [op, nn.lo, nn.hi])
    (hop : Decode.primary op = .imm16 f) : fetchOf (fun k => (encode i).getD k 0) = (f nn, 3) := by
  simp only [fetchOf, bytes, List.getD_cons_zero, List.getD_cons_succ, hop, Word.ofBytes_hi_lo]

/-- The fetch of a well-formed instruction's bytes gives the instruction (R116, R117). -/
theorem fetchOf_encode {i : Instr} (h : i.wf = true) : fetchOf (fun k => (encode i).getD k 0) = (i, i.fetched) := by
  cases i with
  | prefixCb cb => cases h
  | undefined op =>
    have known : op ∈ undefinedOpcodes := by simpa [Instr.wf] using h
    simp only [undefinedOpcodes, List.mem_cons, List.not_mem_nil, or_false] at known
    rcases known with rfl | rfl | rfl | rfl | rfl | rfl | rfl | rfl | rfl | rfl | rfl <;> rfl
  | ldBN _ | ldCN _ | ldDN _ | ldEN _ | ldHN _ | ldLN _ | ldAN _ | ldIndHlN _ | jrE _ | jrNZE _ | jrZE _ | jrNCE _
  | jrCE _ | addAN _ | adcAN _ | subAN _ | sbcAN _ | andAN _ | xorAN _ | orAN _ | cpAN _ | ldhIndA8A _ | ldhAIndA8 _
  | addSpE _ | ldHlSpE _ => exact fetchOf_byte rfl rfl
  | ldBcNn _ | ldIndNnSp _ | ldDeNn _ | ldHlNn _ | ldSpNn _ | jpNZNn _ | jpNn _ | callNZNn _ | jpZNn _ | callZNn _
  | callNn _ | jpNCNn _ | callNCNn _ | jpCNn _ | callCNn _ | ldIndNnA _ | ldAIndNn _ => exact fetchOf_word rfl rfl
  | _ => rfl

/-- With the bytes of a well-formed instruction at PC, the fetch runs it with PC past its fetched bytes. -/
theorem fetchInstr_of_fetchesAs {s : State} {i : Instr} (wf : i.wf = true) (h : fetchesAs i s) (k : Instr → State → Out) :
    fetchInstr s k = k i (s.jump (s.cpu.pc + BitVec.ofNat 16 i.fetched)) := by
  have fetched := fetchInstr_eq (s := s) (b := fun k => (encode i).getD k 0) k
  rw [fetchOf_encode wf] at fetched
  exact fetched h

/-- Phase 3 of a CPU that is neither halted nor frozen by STOP runs the instruction at PC (R114). -/
theorem fetchPhase_of_fetchesAs {s : State} {i : Instr} (wf : i.wf = true) (halted : s.cpu.halted = false)
    (stopped : s.cpu.stopped = false ∨ s.settings.stopMode = .flagOnly) (h : fetchesAs i s) :
    fetchPhase exec s = exec i (s.jump (s.cpu.pc + BitVec.ofNat 16 i.fetched)) := by
  have running : s.idle = false := by
    unfold State.idle
    rcases stopped with e | e <;> simp [halted, e]
  unfold fetchPhase
  rw [running]
  exact fetchInstr_of_fetchesAs wf h exec

theorem idle_of_stopped {s : State} (stopped : s.cpu.stopped = true) (mode : s.settings.stopMode = .haltUntilJoypad) :
    s.idle = true := by
  rw [State.idle, stopped, decide_eq_true mode, Bool.and_true, Bool.or_true]

theorem fetchPhase_idle {s : State} (h : s.idle = true) : fetchPhase exec s = .next (s.charge 4) := if_pos h

/-! ## The step that takes no interrupt -/

theorem cpuStep_quiet {s : State} (quiet : (awake s).cpu.ime = false ∨ (awake s).irq.pending = 0) :
    cpuStep exec s = fetchPhase exec (awake s) :=
  interruptCheck_quiet quiet

/-- Settles O5: without an interrupt the CPU step is phase 3 of the awake state (`cpuStep_quiet`), which fetches and runs
the instruction. -/
theorem stepRunsTheDecodedInstruction : Obligations.StepRunsTheDecodedInstruction := by
  unfold Obligations.StepRunsTheDecodedInstruction
  intro s i wf quiet halted stopped bytes
  unfold step machineStep
  rw [cpuStep_quiet quiet, fetchPhase_of_fetchesAs wf halted (by simpa using stopped) bytes]
  cases exec i ((awake s).jump ((awake s).cpu.pc + BitVec.ofNat 16 i.fetched)) <;> rfl

/-! ## The step that takes an interrupt -/

@[simp] theorem awake_irq (s : State) : (awake s).irq = s.irq := by rw [awake_eq]

@[simp] theorem awake_cycles (s : State) : (awake s).cycles = 0 := by rw [awake_eq]

theorem lowestPending_eq {k : Nat} {pending : Byte} (h : isLowestPending k pending) : lowestPending pending = k := by
  obtain ⟨bound, set, clear⟩ := h
  interval_cases k
  · simp only [lowestPending, set, if_true]
  · simp only [lowestPending, clear 0 (by decide), set, Bool.false_eq_true, if_false, if_true]
  · simp only [lowestPending, clear 0 (by decide), clear 1 (by decide), set, Bool.false_eq_true, if_false, if_true]
  · simp only [lowestPending, clear 0 (by decide), clear 1 (by decide), clear 2 (by decide), set, Bool.false_eq_true,
      if_false, if_true]
  · simp only [lowestPending, clear 0 (by decide), clear 1 (by decide), clear 2 (by decide), clear 3 (by decide),
      Bool.false_eq_true, if_false]

theorem pending_ne_zero_of_isLowestPending {k : Nat} {pending : Byte} (h : isLowestPending k pending) : pending ≠ 0 := by
  rintro rfl
  simpa using h.2.1

/-- The state whose PC an interrupt's dispatch pushes: IF[k] cleared and the cost charged (R209). -/
def State.acknowledged (s : State) (k : Nat) : State :=
  { s with irq := s.irq.acknowledge k, cycles := s.cycles + s.settings.intDispatchCycles }

/-- The state an interrupt's dispatch leaves of `n`, the state after its two pushes, when `s` is that before it (R209). -/
def State.dispatched (s n : State) (k : Nat) : State :=
  { n with cpu := { s.cpu with ime := false, sp := s.cpu.sp - 2, pc := interruptVector k } }

/-- Taking an interrupt pushes PC, high byte first, and goes on at its vector with IME off; the pushes do not see IME. -/
theorem takeInterrupt_eq {s m n : State} {k : Nat} {cont : State → Out}
    (hi : busWrite (s.cpu.sp - 1) s.cpu.pc.hi (s.acknowledged k) = .ok m)
    (lo : busWrite (s.cpu.sp - 2) s.cpu.pc.lo m = .ok n) :
    takeInterrupt k s cont = cont (s.dispatched n k) := by
  have cpuM : m.cpu = s.cpu := (busWrite_cpu hi).1
  have cpuN : n.cpu = s.cpu := (busWrite_cpu lo).1.trans cpuM
  have pushed := push16_eq (v := s.cpu.pc) (s := (s.acknowledged k).onCpu fun c => { c with ime := false })
    (k := fun t => cont (t.jump (interruptVector k)))
    (show busWrite (s.cpu.sp - 1) _ _ = _ by rw [busWrite_onCpu, hi]; rfl)
    (show busWrite (s.cpu.sp - 2) _ _ = _ by rw [busWrite_onCpu, lo]; rfl)
  refine pushed.trans (congrArg cont ?_)
  simp only [State.onCpu, State.jump, State.acknowledged, State.dispatched, cpuN]

/-- With an interrupt pending and IME set, the CPU step dispatches the lowest and goes on to phase 3, unless
`P_DISPATCH_ENDS_STEP` (R114, R205, R209). -/
theorem cpuStep_taken {s m n : State} {k : Nat} (ime : (awake s).cpu.ime = true)
    (lowest : isLowestPending k (awake s).irq.pending)
    (hi : busWrite ((awake s).cpu.sp - 1) (awake s).cpu.pc.hi ((awake s).acknowledged k) = .ok m)
    (lo : busWrite ((awake s).cpu.sp - 2) (awake s).cpu.pc.lo m = .ok n) :
    cpuStep exec s = if ((awake s).dispatched n k).settings.dispatchEndsStep then .next ((awake s).dispatched n k)
      else fetchPhase exec ((awake s).dispatched n k) := by
  unfold cpuStep
  rw [interruptCheck_taken ime (pending_ne_zero_of_isLowestPending lowest)]
  change takeInterrupt (lowestPending (awake s).irq.pending) (awake s) _ = _
  rw [lowestPending_eq lowest, takeInterrupt_eq hi lo]
  rfl

/-- Settles O6: the dispatch is `cpuStep_taken`, and phase 3 runs at the vector because a pending interrupt has ended
HALT. -/
theorem stepTakesTheLowestInterrupt : Obligations.StepTakesTheLowestInterrupt := by
  unfold Obligations.StepTakesTheLowestInterrupt
  intro s m n v k ime lowest hi lo hv
  have halted : (awake s).cpu.halted = false := by
    have pending := pending_ne_zero_of_isLowestPending lowest
    rw [awake_irq] at pending
    rw [awake_halted, decide_eq_false pending, Bool.and_false]
  have acknowledged : (awake s).acknowledged k = { awake s with
      irq := { (awake s).irq with ifr := (awake s).irq.ifr &&& ~~~(1#8 <<< k) }
      cycles := (awake s).settings.intDispatchCycles } := by
    unfold State.acknowledged
    rw [awake_cycles, Nat.zero_add]
    rfl
  rw [← acknowledged] at hi
  have hv : v = (awake s).dispatched n k := hv
  subst hv
  refine ⟨?_, fun stopped mode => fetchPhase_idle (idle_of_stopped stopped mode),
    fun i wf stopped bytes => fetchPhase_of_fetchesAs wf halted stopped bytes⟩
  unfold step machineStep
  rw [cpuStep_taken ime lowest hi lo]
  generalize (if ((awake s).dispatched n k).settings.dispatchEndsStep = true then Host.Outcome.next _ else _ : Out) = o
  cases o <;> rfl

end Sys2Proof.Machine
end

section
/-! PROOFS. What the regions of the bus answer: the echo and the unusable region (R67, R69), the cartridge under the boot
overlay (R61 to R65, R76 to R79), and the writes to the timer that the next tick counts (R71, R216, R218). -/

namespace Sys2Proof.Machine

/-! ## The echo and the unusable region -/

/-- The work RAM address below an echo address is kept under the echo's key (R67). -/
theorem storageKey_below_echo {a : Word} (h : 0xE000 ≤ a.toNat ∧ a.toNat ≤ 0xFDFF) :
    storageKey (a - 0x2000) = some (a.toNat - 0x2000) := by
  have below : (a - 0x2000).toNat = a.toNat - 0x2000 :=
    BitVec.toNat_sub_of_le (BitVec.le_def.mpr (Nat.le_trans (by decide) h.1))
  rw [← below]
  refine storageKey_of_ram (.inr (.inl ?_))
  omega

theorem ownerOf_unusable {a : Word} (h : 0xFEA0 ≤ a.toNat) (h' : a.toNat ≤ 0xFEFF) : ownerOf a = .unusable :=
  ownerOf_eq ⟨h, Nat.lt_succ_of_le h'⟩

/-- Settles O19: an echo address and the work RAM address below it have one key, and so the same reads and writes; the
unusable region has an owner of its own. -/
theorem echoAndUnusableRegions : Obligations.EchoAndUnusableRegions := by
  unfold Obligations.EchoAndUnusableRegions
  refine ⟨fun a v s low high => ?_, fun a v s low high => ?_⟩
  · have key := storageKey_of_echo ⟨low, high⟩
    have below := storageKey_below_echo ⟨low, high⟩
    rw [busRead_of_storageKey key, busRead_of_storageKey below, busWrite_of_storageKey key, busWrite_of_storageKey below]
    exact ⟨rfl, rfl, key⟩
  · have owner := ownerOf_unusable low high
    simp only [busRead, busWrite, owner, and_self]

/-! ## The cartridge and the boot overlay -/

theorem cartOwns_of_range {a : Word} (h : a.toNat < 0x8000 ∨ (0xA000 ≤ a.toNat ∧ a.toNat < 0xC000)) :
    cartOwns a = true := by
  have range := ownerOf_range a
  unfold cartOwns
  cases owner : ownerOf a <;> simp only [owner, Owner.range] at range ⊢ <;> omega

/-- A write to the cartridge's addresses goes to the mapper, whatever the overlay's state (R61, decision D14). -/
theorem busWrite_cart {a : Word} (owns : cartOwns a = true) (v : Byte) (s : State) : busWrite a v s = cartWrite a v s := by
  unfold cartOwns at owns
  unfold busWrite
  cases owner : ownerOf a with
  | bootOrCart | cartRom | extRam => rfl
  | _ => simp only [owner, Bool.false_eq_true] at owns

/-- A read of the cartridge's addresses that the overlay does not answer goes to the mapper (R61). -/
theorem busRead_cart {a : Word} {s : State} (owns : cartOwns a = true) (seen : 0x100 ≤ a.toNat ∨ s.boot.active = false) :
    busRead a s = cartRead a s := by
  unfold cartOwns at owns
  unfold busRead
  cases owner : ownerOf a with
  | bootOrCart =>
    have range := ownerOf_range a
    rw [owner] at range
    have inactive : s.boot.active = false := seen.resolve_left (Nat.not_le.mpr range.2)
    simp only [inactive, Bool.false_eq_true, if_false]
  | cartRom | extRam => rfl
  | _ => simp only [owner, Bool.false_eq_true] at owns

/-- The overlay answers the reads of its addresses while it is active (R61). -/
theorem busRead_overlay {a : Word} {s : State} (low : a.toNat < 256) (active : s.boot.active = true) :
    busRead a s = .ok s.settings.bootImage[a.toNat] := by
  have owner : ownerOf a = .bootOrCart := ownerOf_eq ⟨Nat.zero_le _, low⟩
  simp only [busRead, owner, active, if_true, overlayByte]
  rw [List.getD_eq_getElem _ _ (by simpa using low), Vector.getElem_toList]

theorem Boot.active_eq_false {x : Boot} : x.active = false ↔ x.enabled = false ∨ x.disabled = true := by
  rw [Boot.active, Bool.and_eq_false_iff, Bool.not_eq_false']

theorem cartRead_romOnly {s : State} {img : RomImage} (h : s.cart = .romOnly img) (a : Word) :
    cartRead a s = .ok (if a.toNat < 0x8000 ∧ a.toNat < img.length then img.byte a.toNat else 0xFF) := by
  simp only [cartRead, h, Cart.read, RomImage.byte, ite_and]
  split_ifs <;> rfl

theorem cartRead_banked {s : State} {img : RomImage} {writes : List (Word × Byte)} (h : s.cart = .banked img writes)
    (a : Word) : cartRead a s = .ok (Config.mapperRead img.length img.cells writes a) := by
  simp only [cartRead, h, Cart.read]

theorem cartRead_absent {s : State} (h : s.cart = .absent) (a : Word) : cartRead a s = .error .noCartridge := by
  simp only [cartRead, h, Cart.read]

theorem cartWrite_romOnly {s : State} {img : RomImage} (h : s.cart = .romOnly img) (a : Word) (v : Byte) :
    cartWrite a v s = .ok s := by
  simp only [cartWrite, h, Cart.write]
  rw [← h]

theorem cartWrite_banked {s : State} {img : RomImage} {writes : List (Word × Byte)} (h : s.cart = .banked img writes)
    (a : Word) (v : Byte) : cartWrite a v s = .ok { s with cart := .banked img ((a, v) :: writes) } := by
  simp only [cartWrite, h, Cart.write]

theorem cartWrite_absent {s : State} (h : s.cart = .absent) (a : Word) (v : Byte) :
    cartWrite a v s = .error .noCartridge := by
  simp only [cartWrite, h, Cart.write]

/-- Settles O24: below 0x100 the overlay's state decides who answers a read (`busRead_overlay`, `busRead_cart`), and a
write always goes to the mapper. -/
theorem bootOverlayUntilDisabled : Obligations.BootOverlayUntilDisabled := by
  unfold Obligations.BootOverlayUntilDisabled
  have owns {a : Word} (low : a.toNat < 256) : cartOwns a = true := cartOwns_of_range (.inl (by omega))
  refine ⟨fun a s low enabled disabled => ?_, fun a s low inactive => ?_, fun a v s low => ?_, fun v s => ⟨rfl, rfl⟩⟩
  · exact busRead_overlay low (by simp [Boot.active, enabled, disabled])
  · rw [busRead_cart (owns low) (.inr (Boot.active_eq_false.mpr inactive))]
    rfl
  · rw [busWrite_cart (owns low)]
    rfl

/-- Power-on with an image of the least length goes by its byte 0x0147 (R76). -/
theorem powerOn_of_image {p : PowerOn} {img : RomImage} (cart : p.cart = some img) (long : 0x150 ≤ img.length) :
    State.powerOn p =
      if img.byte 0x0147 = 0x00 then .next (State.atReset p (.romOnly img))
      else if img.byte 0x0147 = 0x01 then .next (State.atReset p (.banked img []))
      else .refused .unsupportedMapper := by
  unfold State.powerOn
  rw [cart]
  exact if_neg (Nat.not_lt.mpr long)

/-- Settles O25: the accesses are the mapper's (`busRead_cart`, `busWrite_cart`), whose answers are one law for each kind
of cartridge; power-on is `powerOn_of_image`. -/
theorem cartridgeAccessAndPowerOn : Obligations.CartridgeAccessAndPowerOn := by
  unfold Obligations.CartridgeAccessAndPowerOn
  refine ⟨fun a v s range => ?_, fun p img cart long => ?_⟩
  · have owns := cartOwns_of_range range
    rw [busWrite_cart owns]
    refine ⟨fun seen => ?_, fun img h => cartWrite_romOnly h a v, fun img writes h => cartWrite_banked h a v,
      fun h => cartWrite_absent h a v⟩
    rw [busRead_cart owns (seen.imp_right Boot.active_eq_false.mpr)]
    exact ⟨fun img h => cartRead_romOnly h a, fun img writes h => cartRead_banked h a, fun h => cartRead_absent h a⟩
  · rw [powerOn_of_image cart long]
    refine ⟨fun h => if_pos h, fun h => ?_, fun h0 h1 => by rw [if_neg h0, if_neg h1]⟩
    have notZero : ¬ img.byte 0x0147 = 0x00 := by rw [h]; decide
    rw [if_neg notZero, if_pos h]

/-! ## The divider and the timer control -/

/-- DIV is the counter's top byte (R33). -/
theorem Word.hi_eq_ofNat (w : Word) : w.hi = BitVec.ofNat 8 (w.toNat / 256) := by
  apply BitVec.eq_of_toNat_eq
  rw [Word.hi, BitVec.extractLsb'_toNat, BitVec.toNat_ofNat, Nat.shiftRight_eq_div_pow]

/-- One cycle after the counter is cleared no selectable bit of it is set. -/
theorem timerAnd_one (tac : Byte) : timerAnd (0 + 1) tac = false := by
  have clear : (0 + 1 : Word).getLsbD (timerBit tac) = false := by
    unfold timerBit
    split_ifs <;> rfl
  rw [timerAnd, clear, Bool.false_and]

/-- The bit that TAC[1:0] selects, by the number in the field (R37). -/
theorem timerBit_eq (tac : Byte) :
    timerBit tac = match (tac.extractLsb' 0 2).toNat with | 0 => 9 | 1 => 3 | 2 => 5 | _ => 7 := by
  unfold timerBit
  generalize tac.extractLsb' 0 2 = field
  revert field
  decide

theorem timerAnd_unselected {div : Word} {tac : Byte} (h : tac.getLsbD 2 = false ∨ div.getLsbD (timerBit tac) = false) :
    timerAnd div tac = false := by
  rcases h with h | h
  · rw [timerAnd, h, Bool.and_false]
  · rw [timerAnd, h, Bool.false_and]

/-- Settles O20: after either write the input of the edge detector is 0 at the next tick, which is then the falling edge
of `timerTick_fall`. -/
theorem divAndTacWritesCanCountAtOnce : Obligations.DivAndTacWritesCanCountAtOnce := by
  unfold Obligations.DivAndTacWritesCanCountAtOnce
  intro v s
  refine ⟨rfl, congrArg Except.ok (Word.hi_eq_ofNat _), fun latch m written => ?_⟩
  rcases written with div | ⟨tac, unselected⟩
  · cases div
    exact timerTick_fall latch (timerAnd_one _)
  · cases tac
    exact timerTick_fall latch (timerAnd_unselected (unselected.imp_right fun h => (timerBit_eq v).symm ▸ h))

end Sys2Proof.Machine
end

section
/-! PROOFS. The decoder and the encoder: the round trip of an instruction (R94, R95, R102), what three bytes decode to
(R94, R108, R117), the extended map by the fields of its byte (R101, R106, R201), and the undefined opcodes (R107). -/

namespace Sys2Proof

/-- The operand bytes of an entry of the primary map whose operand is taken from `nn`. -/
def Entry.operandBytes (e : Entry) (nn : Word) : List Byte :=
  match e with
  | .done _ => []
  | .imm8 _ => [nn.lo]
  | .imm16 _ => [nn.lo, nn.hi]

/-- The instruction that the entry makes of those bytes. -/
def Entry.instr (e : Entry) (nn : Word) : Instr :=
  match e with
  | .done i => i
  | .imm8 f => f nn.lo
  | .imm16 f => f nn

end Sys2Proof

namespace Sys2Proof.Machine

/-! ## The round trip -/

/-- The decoder makes of bytes what the fetch makes of them, and does not look past those the fetch reads. -/
theorem decode_append {l : List Byte} (rest : List Byte) (h : (fetchOf fun k => l.getD k 0).2 ≤ l.length) :
    decode (l ++ rest) = .ok (fetchOf fun k => l.getD k 0).1 := by
  cases l with
  | nil =>
    unfold fetchOf at h
    split at h <;> exact absurd h (Nat.not_succ_le_zero _)
  | cons op l =>
    cases hop : Decode.primary op with
    | done i => simp [decode, fetchOf, hop]
    | imm8 f =>
      cases l with
      | nil => simp [fetchOf, hop] at h
      | cons n l => simp [decode, fetchOf, hop]
    | imm16 f =>
      match l with
      | [] | [_] => simp [fetchOf, hop] at h
      | lo :: hi :: l => simp [decode, fetchOf, hop]

theorem fetched_eq_length {i : Instr} (h : i ≠ .stop) : i.fetched = i.length := by
  unfold Instr.fetched
  split
  · exact absurd rfl h
  · rfl

theorem fetched_le_length (i : Instr) : i.fetched ≤ i.length := by
  by_cases h : i = .stop
  · subst h; decide
  · exact (fetched_eq_length h).le

theorem decode_encode {i : Instr} (wf : i.wf = true) (rest : List Byte) : decode (encode i ++ rest) = .ok i := by
  have fetched := fetchOf_encode wf
  rw [decode_append rest (by rw [fetched]; exact fetched_le_length i), fetched]

/-- Settles O1: the decoder and the fetch agree (`decode_append`), and the fetch of an instruction's bytes gives it back
(`fetchOf_encode`). -/
theorem decodeOfEncodeIsTheInstruction : Obligations.DecodeOfEncodeIsTheInstruction := by
  unfold Obligations.DecodeOfEncodeIsTheInstruction
  exact fun i wf rest => decode_encode wf rest

/-! ## What three bytes decode to -/

/-- `i` is well formed, and `bytes` are the bytes of it that are fetched. -/
structure ReadFrom (bytes : List Byte) (i : Instr) : Prop where
  wf : i.wf = true
  fetched : i.fetched = bytes.length
  bytes : (encode i).take i.fetched = bytes

theorem ReadFrom.length_le {bytes : List Byte} {i : Instr} (h : ReadFrom bytes i) (short : bytes.length ≤ 3) :
    i.length ≤ 3 := by
  by_cases stop : i = .stop
  · subst stop; decide
  · rwa [← fetched_eq_length stop, h.fetched]

/-- The map of R106, checked byte by byte: the instruction looked up is written 0xCB and the byte. -/
theorem encode_cbInstr (cb : Byte) : encode (Decode.cbInstr cb) = [0xCB, cb] := by
  revert cb
  decide

theorem wf_cbInstr (cb : Byte) : (Decode.cbInstr cb).wf = true := by
  revert cb
  decide

theorem cbInstr_readFrom (cb : Byte) : ReadFrom [0xCB, cb] (Decode.cbInstr cb) := by
  have bytes := encode_cbInstr cb
  have fetched : (Decode.cbInstr cb).fetched = 2 := by
    rw [fetched_eq_length (by intro h; rw [h] at bytes; cases bytes), Instr.length, bytes]
    rfl
  exact ⟨wf_cbInstr cb, fetched, by rw [bytes, fetched]; rfl⟩

/-- The map of R105, checked opcode by opcode: each entry makes an instruction whose bytes are the opcode and the
operand. The entry of 0xCB is the extended map. -/
theorem primary_readFrom (op : Byte) (nn : Word) :
    ReadFrom (op :: (Decode.primary op).operandBytes nn) ((Decode.primary op).instr nn) := by
  by_cases extended : op = 0xCB
  · subst extended
    exact cbInstr_readFrom nn.lo
  obtain ⟨n, bound, rfl⟩ : ∃ n < 256, op = BitVec.ofNat 8 n := ⟨op.toNat, op.isLt, by simp⟩
  have other : n ≠ 0xCB := fun e => extended (by rw [e]; rfl)
  rcases Nat.lt_or_gt_of_ne other with below | above <;> interval_cases n <;> exact ⟨rfl, rfl, rfl⟩

/-- Settles O2: the three bytes are an opcode and the operand of its entry in the primary map (`primary_readFrom`). -/
theorem decodedBytesAreTheEncoding : Obligations.DecodedBytesAreTheEncoding := by
  unfold Obligations.DecodedBytesAreTheEncoding
  intro op b1 b2 rest
  have read := primary_readFrom op (Word.ofBytes b2 b1)
  have decoded : decode (op :: b1 :: b2 :: rest) = .ok ((Decode.primary op).instr (Word.ofBytes b2 b1)) := by
    cases hop : Decode.primary op <;> simp [decode, hop, Entry.instr]
  have taken : op :: (Decode.primary op).operandBytes (Word.ofBytes b2 b1) <+: op :: b1 :: b2 :: rest := by
    cases Decode.primary op <;> simp [Entry.operandBytes]
  have short : (op :: (Decode.primary op).operandBytes (Word.ofBytes b2 b1)).length ≤ 3 := by
    cases Decode.primary op <;> simp [Entry.operandBytes]
  refine ⟨_, decoded, read.wf, ?_, read.length_le short, ?_⟩
  · exact Nat.le_trans (by rw [read.fetched]; exact Nat.succ_pos _) (fetched_le_length _)
  · rw [read.bytes, read.fetched]
    exact (List.prefix_iff_eq_take.mp taken).symm

/-! ## The extended map by the fields of its byte -/

/-- The instruction that the fields `x`, `y` and `z` of a second byte name (R101). -/
def cbOfFields (x : BitVec 2) (y z : BitVec 3) : Instr :=
  if x = 0 then Instr.shift (ShiftOp.ofField y) (Loc.ofField z)
  else if x = 1 then Instr.bitLoc y.toFin (Loc.ofField z)
  else if x = 2 then Instr.resLoc y.toFin (Loc.ofField z)
  else Instr.setLoc y.toFin (Loc.ofField z)

/-- The map of R106, checked byte by byte against the fields of R101. -/
theorem cbInstr_eq_cbOfFields (cb : Byte) :
    Decode.cbInstr cb = cbOfFields (cb.extractLsb' 6 2) (cb.extractLsb' 3 3) (cb.extractLsb' 0 3) := by
  revert cb
  decide

theorem exec_cbInstr (cb : Byte) (s : State) : exec (Decode.cbInstr cb) s = cbByFields cb s := by
  rw [cbInstr_eq_cbOfFields]
  unfold cbOfFields cbByFields
  simp only [apply_ite (exec · s), exec_shift, exec_bitLoc, exec_resLoc, exec_setLoc]

/-- Settles O4: the row that the map selects has the meaning by the fields of the byte (`exec_cbInstr`). -/
theorem prefixRunsTheSelectedRow : Obligations.PrefixRunsTheSelectedRow := by
  unfold Obligations.PrefixRunsTheSelectedRow
  exact fun cb s => ⟨(exec_cbInstr cb s).symm, encode_cbInstr cb, rfl⟩

/-! ## Words of the maps -/

/-- Settles O3: each word is an entry of the primary or the extended map. -/
theorem writtenOutWordsDecode : Obligations.WrittenOutWordsDecode := by
  unfold Obligations.WrittenOutWordsDecode
  and_intros <;> rfl

/-- Settles O54: an undefined opcode is well formed and so decodes to itself (`decode_encode`); its meaning logs it. -/
theorem undefinedOpcodesAreLogged : Obligations.UndefinedOpcodesAreLogged := by
  unfold Obligations.UndefinedOpcodesAreLogged
  refine ⟨rfl, fun op known => ⟨?_, rfl, fun s => rfl⟩⟩
  exact decode_encode (i := .undefined op) (List.contains_iff_mem.mpr known) []

end Sys2Proof.Machine
end

section
/-! PROOFS. The jumps (R99, R185 to R189). -/

namespace Sys2Proof.Machine

/-- Adding a sign-extended displacement is adding its integer value, modulo 2^16 (R188). -/
theorem add_signExtend (pc : Word) (e : Byte) :
    pc + e.signExtend 16 = BitVec.ofInt 16 ((pc.toNat : Int) + e.toInt) := by
  rw [BitVec.ofInt_add, BitVec.ofInt_natCast, BitVec.ofNat_toNat, BitVec.setWidth_eq]
  rfl

theorem encode_jpCond (cc : Cond) (nn : Word) :
    encode (Instr.jpCond cc nn) = [0b110#3 ++ cc.field ++ 0b010#3, nn.lo, nn.hi] := by cases cc <;> rfl

theorem encode_jrCond (cc : Cond) (e : Byte) : encode (Instr.jrCond cc e) = [0b001#3 ++ cc.field ++ 0b000#3, e] := by
  cases cc <;> rfl

/-- Settles O50: a conditional jump is one form for all four conditions (`exec_jpCond`, `exec_jrCond`), and its relative
target is `add_signExtend`. -/
theorem jumps : Obligations.Jumps := by
  unfold Obligations.Jumps
  intro s rel
  have target (e : Byte) : relTarget e s = rel e := add_signExtend s.cpu.pc e
  refine ⟨fun cc lo hi => ?_, fun cc e => ⟨encode_jrCond cc e, rfl⟩, rfl, fun nn => rfl, fun cc nn => ?_, rfl,
    fun e => ?_, fun cc e => ?_, rfl, rfl, rfl, rfl⟩
  · have lo_eq : Word.lo (hi ++ lo) = lo := Word.lo_ofBytes hi lo
    have hi_eq : Word.hi (hi ++ lo) = hi := Word.hi_ofBytes hi lo
    rw [encode_jpCond, lo_eq, hi_eq]
    exact ⟨rfl, by rw [encode, lo_eq, hi_eq]⟩
  · rw [exec_jpCond]
    exact (apply_ite Host.Outcome.next _ _ _).symm
  · rw [← target]
    rfl
  · rw [exec_jrCond, ← target]
    exact (apply_ite Host.Outcome.next _ _ _).symm

end Sys2Proof.Machine
end

section
/-! PROOFS. The cycles of an instruction: with a cartridge it completes and adds the cost of its row of the maps (R105,
R106, R118, R120). -/

namespace Sys2Proof.Machine

/-! ## The shapes of a meaning

Nothing in a meaning adds cycles but the `finish` it ends with: each lemma says so of one shape. -/

/-- What is answered has `n` more cycles than `s`. -/
abbrev Charges (s : State) (n : Nat) (o : Out) : Prop := Post o fun t => t.cycles = s.cycles + n

section
variable {P : State → Prop} {s t : State} {n : Nat}

theorem busWrite_cycles {a : Word} {v : Byte} {m : State} (h : busWrite a v t = .ok m) : m.cycles = t.cycles := by
  obtain ⟨-, cycles, -⟩ := busWrite_cpu h
  exact cycles

theorem charges_finish (ht : t.cycles = s.cycles) : Charges s n (finish n t) :=
  post_finish (by rw [State.charge_cycles, ht])

theorem post_withWrite_cycles {a : Word} {v : Byte} {k : State → Out} (ht : t.cycles = s.cycles)
    (h : ∀ m, m.cycles = s.cycles → Post (k m) P) : Post (withWrite a v t k) P :=
  post_withWrite fun m hm => h m ((busWrite_cycles hm).trans ht)

theorem post_push16_cycles {v : Word} {k : State → Out}
    (h : ∀ m, m.cycles = s.cycles → Post (k m) P) : Post (push16 v s k) P :=
  post_push16 fun _ _ hm hn => h _ ((busWrite_cycles hn).trans (busWrite_cycles hm))

theorem charges_stepPair (p : RegPair) (d : Word) : Charges s 8 (stepPair p d s) := charges_finish rfl

theorem charges_pushPair (q : StackPair) : Charges s 16 (pushPair q s) :=
  post_push16_cycles fun _ hm => charges_finish hm

theorem charges_popPair (q : StackPair) : Charges s 12 (popPair q s) := post_pop16 fun _ _ _ _ => charges_finish rfl

theorem charges_callTo (target : Word) : Charges s n (callTo target n s) :=
  post_push16_cycles fun _ hm => charges_finish hm

theorem charges_retFrom : Charges s n (retFrom n s) := post_pop16 fun _ _ _ _ => charges_finish rfl

theorem charges_reti : Charges s 16 (execReti s) := by
  unfold execReti returnFromInterrupt
  exact post_pop16 fun _ _ _ _ => charges_finish rfl

theorem post_modifyLoc_cycles {x : Loc} {g : Byte → Byte} {k : Byte → State → Out}
    (h : ∀ v m, m.cycles = s.cycles → Post (k v m) P) : Post (modifyLoc x g s k) P := by
  refine post_modifyLoc fun v m _ hm => h v m ?_
  cases x with
  | reg r => rw [show m = _ from hm]
  | atHl => exact busWrite_cycles hm

theorem charges_incLoc (x : Loc) : Charges s n (incLoc x n s) := post_modifyLoc_cycles fun _ _ hm => charges_finish hm

theorem charges_decLoc (x : Loc) : Charges s n (decLoc x n s) := post_modifyLoc_cycles fun _ _ hm => charges_finish hm

theorem charges_shiftLoc (op : ShiftOp) (x : Loc) : Charges s n (shiftLoc op x n s) :=
  post_modifyLoc_cycles fun _ _ hm => charges_finish hm

theorem charges_bitLoc (b : Fin 8) (x : Loc) : Charges s n (bitLoc b x n s) :=
  post_readLoc fun _ _ => charges_finish rfl

theorem charges_resLoc (b : Fin 8) (x : Loc) : Charges s n (resLoc b x n s) :=
  post_modifyLoc_cycles fun _ _ hm => charges_finish hm

theorem charges_setLoc (b : Fin 8) (x : Loc) : Charges s n (setLoc b x n s) :=
  post_modifyLoc_cycles fun _ _ hm => charges_finish hm

end

/-! ## The conditional forms -/

section
variable (cc : Cond) (s : State)

theorem charges_jpIf (nn : Word) : Charges s (if condHolds cc s.cpu.flags then 16 else 12) (jpIf cc nn s) := by
  unfold jpIf
  split <;> exact charges_finish rfl

theorem charges_jrIf (e : Byte) : Charges s (if condHolds cc s.cpu.flags then 12 else 8) (jrIf cc e s) := by
  unfold jrIf
  split <;> exact charges_finish rfl

theorem charges_callIf (nn : Word) : Charges s (if condHolds cc s.cpu.flags then 24 else 12) (callIf cc nn s) := by
  unfold callIf
  split
  · exact charges_callTo nn
  · exact charges_finish rfl

theorem charges_retIf : Charges s (if condHolds cc s.cpu.flags then 20 else 8) (retIf cc s) := by
  unfold retIf
  split
  · exact charges_retFrom
  · exact charges_finish rfl

end

/-! ## The extended map -/

theorem Loc.ofField_eq_atHl (z : BitVec 3) : Loc.ofField z = .atHl ↔ z = 6 := by
  revert z
  decide

/-- The meaning by fields charges what the map of R106 says: 8, with `(HL)` 16, but 12 for `BIT`. -/
theorem charges_cbByFields (cb : Byte) (s : State) : Charges s (Decode.cbCost cb) (cbByFields cb s) := by
  unfold cbByFields Decode.cbCost
  simp only [Loc.ofField_eq_atHl]
  by_cases bit : cb.extractLsb' 6 2 = 1
  · have notShift : cb.extractLsb' 6 2 ≠ 0 := by rw [bit]; decide
    simp only [if_neg notShift, if_pos bit]
    exact charges_bitLoc _ _
  · simp only [if_neg bit]
    exact post_ite (fun _ => charges_shiftLoc _ _) fun _ => post_ite (fun _ => charges_resLoc _ _) fun _ =>
      charges_setLoc _ _

/-- A well-formed instruction of the extended map has the meaning by fields of its second byte. -/
theorem exec_of_encode_cb {i : Instr} {cb : Byte} (wf : i.wf = true) (bytes : encode i = [0xCB, cb]) (s : State) :
    exec i s = cbByFields cb s := by
  have row : i = Decode.cbInstr cb := by
    have decoded := decode_encode wf []
    rw [bytes] at decoded
    exact (Except.ok.inj decoded).symm
  rw [row, exec_cbInstr]

/-! ## Every instruction -/

/-- The cost of an instruction under the flags it runs with (R118). -/
def costUnder (i : Instr) (f : Flags) : Nat := if isTaken i f then i.cost.1 else i.cost.2

/-- The instruction charges its cost in `s`. -/
abbrev ChargesCost (i : Instr) (s : State) : Prop := Charges s (costUnder i s.cpu.flags) (exec i s)

section
variable {i : Instr} {s : State}

theorem ChargesCost.of_fixed {n : Nat} (h : Charges s n (exec i s)) (cost : i.cost = (n, n)) : ChargesCost i s := by
  unfold ChargesCost costUnder
  rwa [cost, ite_self]

theorem ChargesCost.of_cond {cc : Cond} {n m : Nat}
    (h : Charges s (if condHolds cc s.cpu.flags then n else m) (exec i s)) (cost : i.cost = (n, m))
    (taken : isTaken i s.cpu.flags = condHolds cc s.cpu.flags) : ChargesCost i s := by
  unfold ChargesCost costUnder
  rwa [cost, taken]

theorem ChargesCost.of_cb {cb : Byte} (wf : i.wf = true) (bytes : encode i = [0xCB, cb]) : ChargesCost i s := by
  have cost : i.cost = (Decode.cbCost cb, Decode.cbCost cb) := by
    rw [Instr.cost, bytes]
    rfl
  refine .of_fixed ?_ cost
  rw [exec_of_encode_cb wf bytes]
  exact charges_cbByFields cb s

end

theorem cost_undefined : ∀ op ∈ undefinedOpcodes, (Instr.undefined op).cost = (4, 4) := by decide

/-- Every instruction of the table, by the shape of its meaning: no bus access, a read, a write, both, the stack, or a
condition. What is left is the extended map. -/
theorem exec_chargesCost {i : Instr} (known : ∀ op, i = .undefined op → op ∈ undefinedOpcodes) (s : State) :
    ChargesCost i s := by
  cases i with
  | undefined op => exact .of_fixed (charges_finish rfl) (cost_undefined op (known op rfl))
  | prefixCb cb => exact .of_fixed (charges_cbByFields cb s) rfl
  | nop | stop | halt | di | ei | scf | ccf | daa | cpl | rlca | rrca | rla | rra | jrE _ | jpNn _ | jpHl | ldSpHl
  | addSpE _ | ldHlSpE _ | ldBcNn _ | ldDeNn _ | ldHlNn _ | ldSpNn _
  | addHlBc | addHlDe | addHlHl | addHlSp
  | incB | incC | incD | incE | incH | incL | incA | decB | decC | decD | decE | decH | decL | decA
  | ldBN _ | ldCN _ | ldDN _ | ldEN _ | ldHN _ | ldLN _ | ldAN _
  | ldBB | ldBC | ldBD | ldBE | ldBH | ldBL | ldBA | ldCB | ldCC | ldCD | ldCE | ldCH | ldCL | ldCA
  | ldDB | ldDC | ldDD | ldDE | ldDH | ldDL | ldDA | ldEB | ldEC | ldED | ldEE | ldEH | ldEL | ldEA
  | ldHB | ldHC | ldHD | ldHE | ldHH | ldHL | ldHA | ldLB | ldLC | ldLD | ldLE | ldLH | ldLL | ldLA
  | ldAB | ldAC | ldAD | ldAE | ldAH | ldAL | ldAA
  | addAN _ | adcAN _ | subAN _ | sbcAN _ | andAN _ | xorAN _ | orAN _ | cpAN _
  | addAB | addAC | addAD | addAE | addAH | addAL | addAA | adcAB | adcAC | adcAD | adcAE | adcAH | adcAL | adcAA
  | subAB | subAC | subAD | subAE | subAH | subAL | subAA | sbcAB | sbcAC | sbcAD | sbcAE | sbcAH | sbcAL | sbcAA
  | andAB | andAC | andAD | andAE | andAH | andAL | andAA | xorAB | xorAC | xorAD | xorAE | xorAH | xorAL | xorAA
  | orAB | orAC | orAD | orAE | orAH | orAL | orAA | cpAB | cpAC | cpAD | cpAE | cpAH | cpAL | cpAA =>
    exact .of_fixed (charges_finish rfl) rfl
  | incBc | decBc | incDe | decDe | incHl | decHl | incSp | decSp => exact .of_fixed (charges_stepPair _ _) rfl
  | ldBIndHl | ldCIndHl | ldDIndHl | ldEIndHl | ldHIndHl | ldLIndHl | ldAIndHl
  | ldAIndHlInc | ldAIndHlDec | ldAIndBc | ldAIndDe | ldAIndC | ldhAIndA8 _ | ldAIndNn _
  | addAIndHl | adcAIndHl | subAIndHl | sbcAIndHl | andAIndHl | xorAIndHl | orAIndHl | cpAIndHl =>
    exact .of_fixed (post_withRead fun _ _ => charges_finish rfl) rfl
  | ldIndHlB | ldIndHlC | ldIndHlD | ldIndHlE | ldIndHlH | ldIndHlL | ldIndHlA | ldIndHlN _
  | ldIndHlIncA | ldIndHlDecA | ldIndBcA | ldIndDeA | ldIndCA | ldhIndA8A _ | ldIndNnA _ =>
    exact .of_fixed (post_withWrite_cycles rfl fun _ hm => charges_finish hm) rfl
  | ldIndNnSp _ =>
    exact .of_fixed (post_withWrite_cycles rfl fun _ hm => post_withWrite_cycles hm fun _ hn => charges_finish hn) rfl
  | incIndHl => exact .of_fixed (charges_incLoc .atHl) rfl
  | decIndHl => exact .of_fixed (charges_decLoc .atHl) rfl
  | pushBc | pushDe | pushHl | pushAf => exact .of_fixed (charges_pushPair _) rfl
  | popBc | popDe | popHl | popAf => exact .of_fixed (charges_popPair _) rfl
  | reti => exact .of_fixed charges_reti rfl
  | ret => exact .of_fixed charges_retFrom rfl
  | callNn nn => exact .of_fixed (charges_callTo nn) rfl
  | rst00 | rst08 | rst10 | rst18 | rst20 | rst28 | rst30 | rst38 => exact .of_fixed (charges_callTo _) rfl
  | jpNZNn nn => exact .of_cond (charges_jpIf .nz s nn) rfl rfl
  | jpZNn nn => exact .of_cond (charges_jpIf .z s nn) rfl rfl
  | jpNCNn nn => exact .of_cond (charges_jpIf .nc s nn) rfl rfl
  | jpCNn nn => exact .of_cond (charges_jpIf .c s nn) rfl rfl
  | jrNZE e => exact .of_cond (charges_jrIf .nz s e) rfl rfl
  | jrZE e => exact .of_cond (charges_jrIf .z s e) rfl rfl
  | jrNCE e => exact .of_cond (charges_jrIf .nc s e) rfl rfl
  | jrCE e => exact .of_cond (charges_jrIf .c s e) rfl rfl
  | callNZNn nn => exact .of_cond (charges_callIf .nz s nn) rfl rfl
  | callZNn nn => exact .of_cond (charges_callIf .z s nn) rfl rfl
  | callNCNn nn => exact .of_cond (charges_callIf .nc s nn) rfl rfl
  | callCNn nn => exact .of_cond (charges_callIf .c s nn) rfl rfl
  | retNZ => exact .of_cond (charges_retIf .nz s) rfl rfl
  | retZ => exact .of_cond (charges_retIf .z s) rfl rfl
  | retNC => exact .of_cond (charges_retIf .nc s) rfl rfl
  | retC => exact .of_cond (charges_retIf .c s) rfl rfl
  | _ => exact .of_cb rfl rfl

/-! ## The costs -/

theorem four_dvd_cbCost (cb : Byte) : 4 ∣ Decode.cbCost cb := by
  unfold Decode.cbCost
  split_ifs <;> decide

/-- The costs of R105, checked opcode by opcode. -/
theorem four_dvd_costRows (op : Byte) :
    4 ∣ ((Decode.costRows.getD (op.toNat / 16) []).getD (op.toNat % 16) (0, 0)).1 ∧
      4 ∣ ((Decode.costRows.getD (op.toNat / 16) []).getD (op.toNat % 16) (0, 0)).2 := by
  revert op
  decide

theorem four_dvd_cost (i : Instr) : 4 ∣ i.cost.1 ∧ 4 ∣ i.cost.2 := by
  unfold Instr.cost
  split
  · exact ⟨four_dvd_cbCost _, four_dvd_cbCost _⟩
  · exact four_dvd_costRows _
  · decide

/-- No instruction inserts or removes a cartridge. -/
theorem exec_present {i : Instr} {s t : State} (h : exec i s = .next t) : t.cart.present = s.cart.present := by
  rw [Cart.present_eq_isSome_image, Cart.present_eq_isSome_image, (exec_unitsKept i s t h).image]

/-- Settles O9: with a cartridge no access fails (`stops_exec`), and every meaning charges the cost of its row
(`exec_chargesCost`). -/
theorem everyInstructionCompletes : Obligations.EveryInstructionCompletes := by
  unfold Obligations.EveryInstructionCompletes
  intro i s known present
  obtain ⟨t, ht⟩ := (stops_exec present i).next
  obtain ⟨taken, notTaken⟩ := four_dvd_cost i
  exact ⟨t, ht, exec_chargesCost known s t ht, taken, notTaken, (exec_present ht).trans present⟩

end Sys2Proof.Machine
end

section
/-! PROOFS. Host runs: what a run of actions keeps, and that each action keeps the invariant (R112, R233, R240). -/

namespace Sys2Proof.Machine

/-! ## Runs of host actions -/

/-- A run completes when its first action does and the rest runs from the state that action reached. -/
theorem runHost_cons_eq_next {x : HostAction} {rest : List HostAction} {s t : State} :
    runHost (x :: rest) s = .next t ↔ ∃ u, x.run s = .next u ∧ runHost rest u = .next t := by
  rw [runHost]
  cases x.run s <;> simp

/-- What every action keeps, every run keeps. -/
theorem post_runHost {P : State → Prop} (keeps : ∀ (x : HostAction) {s : State}, P s → Post (x.run s) P)
    (acts : List HostAction) {s : State} (h : P s) : Post (runHost acts s) P := by
  induction acts generalizing s with
  | nil => exact post_next h
  | cons x rest ih =>
    intro t ht
    obtain ⟨u, hu, hrest⟩ := runHost_cons_eq_next.mp ht
    exact ih (keeps x h u hu) t hrest

/-! ## The actions -/

/-- Input reaches the joypad and, on a change, IF; the invariant speaks of neither (R233). -/
theorem State.Ok.setInput {s : State} (h : s.Ok) (dirs buttons : BitVec 4) : (s.setInput dirs buttons).Ok := by
  unfold State.setInput
  split
  · exact { h with }
  · exact { h with }

/-- Power-on that is not refused reaches the reset state with some cartridge (R76, R240). -/
theorem powerOn_atReset (p : PowerOn) : Post (State.powerOn p) fun t => ∃ cart, t = State.atReset p cart := by
  have inserted (cart : Cart) :
      Post (.next (State.atReset p cart)) fun t => ∃ cart', t = State.atReset p cart' := post_next ⟨cart, rfl⟩
  have refused (r : Refusal) : Post (.refused r) fun t => ∃ cart, t = State.atReset p cart := fun _ e => nomatch e
  unfold State.powerOn
  split
  · exact inserted .absent
  · next img _ =>
    exact post_ite (fun _ => refused _) fun _ => post_ite (fun _ => inserted (.romOnly img)) fun _ =>
      post_ite (fun _ => inserted (.banked img [])) fun _ => refused _

/-- A step keeps the invariant, input does not reach it, and a reset establishes it. -/
theorem HostAction.run_ok (x : HostAction) {s : State} (h : s.Ok) : Post (x.run s) State.Ok := by
  cases x with
  | machineStep => exact fun t => everyStepKeepsTheInvariant s t h
  | setInput dirs buttons => exact post_next (h.setInput dirs buttons)
  | fullReset p =>
    intro t ht
    obtain ⟨cart, rfl⟩ := powerOn_atReset p t ht
    exact State.atReset_ok p cart

/-- Settles O14: every action keeps the invariant (`HostAction.run_ok`), so every list of them does. -/
theorem hostRunsKeepTheInvariant : Obligations.HostRunsKeepTheInvariant := by
  unfold Obligations.HostRunsKeepTheInvariant
  exact fun acts _ t h => post_runHost HostAction.run_ok acts h t

end Sys2Proof.Machine
end

section
/-! PROOFS. The 8-bit loads and stores (R123 to R141): what one access with a change of registers answers, and the
instructions as such accesses. -/

namespace Sys2Proof.Machine

/-! ## One load, one store

A load reads and changes registers; a store writes and then changes registers. -/

/-- Writing one register changes no other, no flag, and nothing else of the CPU. -/
theorem onlyReg_setReg (c : Cpu) (r : Reg8) (v : Byte) : onlyReg r v c (c.setReg r v) :=
  ⟨c.reg_setReg_same r v, fun q => c.reg_setReg_other r q v, c.setReg_f r v, c.setReg_sp r v, c.setReg_pc r v,
    c.setReg_ime r v, c.setReg_eiPending r v, c.setReg_diPending r v, c.setReg_halted r v, c.setReg_stopped r v⟩

theorem finish_onCpu (n : Nat) (s : State) (g : Cpu → Cpu) : finish n (s.onCpu g) = .next (s.after (g s.cpu) n) := rfl

/-- A load runs on the registers before it, with the byte read. -/
theorem withRead_after {a : Word} {s : State} {v : Byte} (n : Nat) (g : Byte → Cpu → Cpu) (h : busRead a s = .ok v) :
    (withRead a s fun b => finish n (s.onCpu (g b))) = .next (s.after (g v s.cpu) n) := by
  rw [withRead_eq h, finish_onCpu]

/-- A store followed by a change of registers is the write, with the change made on the registers before it. -/
theorem withWrite_after {a : Word} {v : Byte} {s m : State} (n : Nat) (g : Cpu → Cpu) (h : busWrite a v s = .ok m) :
    (withWrite a v s fun t => finish n (t.onCpu g)) = .next { m with cpu := g s.cpu, cycles := s.cycles + n } := by
  obtain ⟨cpu, cycles, -⟩ := busWrite_cpu h
  rw [withWrite_eq h, finish_onCpu, ← cpu, ← cycles]
  rfl

/-- Reads do not look at the registers or at the cycles. -/
theorem readsKept.setCpu {a : Word} {s m : State} (h : readsKept a s m) (c : Cpu) (n : Nat) :
    readsKept a s { m with cpu := c, cycles := n } := h

/-! ## Into a register -/

theorem encode_ldRegReg (y z : Reg8) : encode (Instr.ldRegReg y z) = [0b01#2 ++ y.field ++ z.field] := by
  cases y <;> cases z <;> rfl

theorem encode_ldRegImm (y : Reg8) (n : Byte) : encode (Instr.ldRegImm y n) = [0b00#2 ++ y.field ++ 0b110#3, n] := by
  cases y <;> rfl

theorem encode_ldRegHl (y : Reg8) : encode (Instr.ldRegHl y) = [0b01#2 ++ y.field ++ 0b110#3] := by cases y <;> rfl

/-- Settles O27: each writes the one register (`onlyReg_setReg`). -/
theorem loadRegister : Obligations.LoadRegister := by
  unfold Obligations.LoadRegister
  exact ⟨fun y z s => ⟨encode_ldRegReg y z, _, exec_ldRegReg y z s, onlyReg_setReg _ y _⟩,
    fun y n s => ⟨encode_ldRegImm y n, _, exec_ldRegImm y n s, onlyReg_setReg _ y n⟩⟩

/-- Settles O28: the read is at HL before the register is written (`withRead_after`), whichever register it is. -/
theorem loadRegisterFromHl : Obligations.LoadRegisterFromHl := by
  unfold Obligations.LoadRegisterFromHl
  exact fun y s v h => ⟨encode_ldRegHl y, _, (exec_ldRegHl y s).trans (withRead_after 8 _ h), onlyReg_setReg _ y v⟩

/-! ## At HL -/

/-- The whole next state of an instruction that stores one byte, and what its store leaves of the memory. -/
theorem exec_of_store {i : Instr} {a : Word} {v : Byte} {s m : State} {n : Nat} {g : Cpu → Cpu}
    (meaning : exec i s = withWrite a v s fun t => finish n (t.onCpu g)) (wf : s.mem.wf = true)
    (h : busWrite a v s = .ok m) :
    ∃ t, exec i s = .next t ∧ t = { m with cpu := g s.cpu, cycles := s.cycles + n } ∧ readsKept a s t :=
  ⟨_, meaning.trans (withWrite_after n g h), rfl, (busWrite_readsKept wf h).setCpu _ _⟩

theorem encode_ldHlReg (z : Reg8) : encode (Instr.ldHlReg z) = [0b01110#5 ++ z.field] := by cases z <;> rfl

/-- Settles O29: each is a store at HL that leaves the registers alone (`exec_of_store`). -/
theorem storeAtHl : Obligations.StoreAtHl := by
  unfold Obligations.StoreAtHl
  constructor
  · intro z s m wf h
    exact ⟨encode_ldHlReg z, exec_of_store (g := id) (exec_ldHlReg z s) wf h⟩
  · intro n s m wf h
    exact ⟨rfl, exec_of_store (g := id) rfl wf h⟩

/-- Settles O30: the loads are `withRead_after` and the stores `exec_of_store`, with the step of HL as the change of
registers. -/
theorem accumulatorThroughHlWithStep : Obligations.AccumulatorThroughHlWithStep := by
  unfold Obligations.AccumulatorThroughHlWithStep
  refine ⟨rfl, rfl, rfl, rfl, fun s v h => ?_, fun s m wf h => ?_⟩
  · rw [sub_eq_add_neg]
    exact ⟨withRead_after 8 _ h, withRead_after 8 _ h⟩
  · have step (i : Instr) (delta : Word) (meaning : exec i s = stAHlStep delta s) := exec_of_store meaning wf h
    obtain ⟨t, ht, t_eq, kept⟩ := step .ldIndHlIncA 1 rfl
    obtain ⟨u, hu, u_eq, kept'⟩ := step .ldIndHlDecA (-1) rfl
    rw [sub_eq_add_neg]
    exact ⟨⟨t, ht, kept, t_eq⟩, u, hu, kept', u_eq⟩

/-! ## The accumulator -/

/-- The address of R102 written in numbers, as R138 to R141 are stated. -/
theorem ioPage_eq (v : Byte) : ioPage v = BitVec.ofNat 16 (0xFF00 + v.toNat) := by
  rw [BitVec.ofNat_add, BitVec.ofNat_toNat]
  rfl

theorem Word.hi_append (hi lo : Byte) : Word.hi (hi ++ lo) = hi := Word.hi_ofBytes hi lo

theorem Word.lo_append (hi lo : Byte) : Word.lo (hi ++ lo) = lo := Word.lo_ofBytes hi lo

theorem ldAFrom_after {a : Word} {s : State} {v : Byte} (n : Nat) (h : busRead a s = .ok v) :
    ldAFrom a n s = .next (s.after { s.cpu with a := v } n) := withRead_after n _ h

/-- Settles O31: each is a load of A (`ldAFrom_after`), from the I/O page at `ioPage_eq`. -/
theorem accumulatorLoads : Obligations.AccumulatorLoads := by
  unfold Obligations.AccumulatorLoads
  refine ⟨rfl, rfl, rfl, fun lo hi => ?_, fun a8 => rfl, fun s v h => ldAFrom_after 8 h, fun s v h => ldAFrom_after 8 h,
    fun nn s v h => ldAFrom_after 16 h, fun a8 s v h => ?_, fun s v h => ?_⟩
  · rw [encode, Word.lo_append, Word.hi_append]
  · rw [← ioPage_eq] at h
    exact ldAFrom_after 12 h
  · rw [← ioPage_eq] at h
    exact ldAFrom_after 8 h

/-- Settles O32: each is a store of A that leaves the registers alone (`exec_of_store`), in the I/O page at
`ioPage_eq`. -/
theorem accumulatorStores : Obligations.AccumulatorStores := by
  unfold Obligations.AccumulatorStores
  refine ⟨rfl, rfl, rfl, fun lo hi => ?_, fun a8 => rfl, fun i addr cost s m wf form h => ?_⟩
  · rw [encode, Word.lo_append, Word.hi_append]
  · have meaning : exec i s = stAAt addr cost s := by
      obtain ⟨rfl, rfl, rfl⟩ | ⟨rfl, rfl, rfl⟩ | ⟨rfl, rfl⟩ | ⟨a8, rfl, rfl, rfl⟩ | ⟨rfl, rfl, rfl⟩ := form
      · rfl
      · rfl
      · rfl
      · rw [← ioPage_eq]; rfl
      · rw [← ioPage_eq]; rfl
    exact exec_of_store (g := id) meaning wf h

end Sys2Proof.Machine
end

section
/-! PROOFS. The 16-bit loads and the stack (R142 to R147, R168): what a push and a pop with a change of registers
answer, what two stores leave of the memory, and the instructions as such accesses. -/

namespace Sys2Proof.Machine

/-! ## Two stores, and the stack

The counterparts for a word of what is said above of one load and one store. -/

theorem readsKept.and_then {a b : Word} {s m n : State} (h : readsKept a s m) (h' : readsKept b m n) :
    readsKept2 a b s n := fun x ha hb => (h' x hb).trans (h x ha)

theorem busWrites_readsKept2 {a b : Word} {v w : Byte} {s m n : State} (wf : s.mem.wf = true)
    (h : busWrite a v s = .ok m) (h' : busWrite b w m = .ok n) : readsKept2 a b s n :=
  (busWrite_readsKept wf h).and_then (busWrite_readsKept (busWrite_memWf h wf) h')

/-- Reads do not look at the registers or at the cycles. -/
theorem readsKept2.setCpu {a b : Word} {s m : State} (h : readsKept2 a b s m) (c : Cpu) (n : Nat) :
    readsKept2 a b s { m with cpu := c, cycles := n } := h

/-- A change of registers after two stores is made on the registers before them. -/
theorem finish_onCpu_of_busWrites {a b : Word} {v w : Byte} {s m t : State} (n : Nat) (g : Cpu → Cpu)
    (h : busWrite a v s = .ok m) (h' : busWrite b w m = .ok t) :
    finish n (t.onCpu g) = .next { t with cpu := g s.cpu, cycles := s.cycles + n } := by
  obtain ⟨cpu, cycles, -⟩ := busWrite_cpu h
  obtain ⟨cpu', cycles', -⟩ := busWrite_cpu h'
  rw [finish_onCpu, ← cpu, ← cycles, ← cpu', ← cycles']
  rfl

/-- A push followed by a change of registers is its two stores, with the change made on the registers with SP two
lower (R82). -/
theorem push16_after {v : Word} {s m t : State} (n : Nat) (g : Cpu → Cpu)
    (h : busWrite (s.cpu.sp - 1) v.hi s = .ok m) (h' : busWrite (s.cpu.sp - 2) v.lo m = .ok t) :
    (push16 v s fun t => finish n (t.onCpu g)) =
      .next { t with cpu := g { s.cpu with sp := s.cpu.sp - 2 }, cycles := s.cycles + n } := by
  rw [push16_eq h h', State.onCpu_onCpu, finish_onCpu_of_busWrites n _ h h']

/-- A pop runs what follows on the registers with SP two higher, with the word popped (R82). -/
theorem pop16_after {s : State} {lo hi : Byte} (n : Nat) (g : Word → Cpu → Cpu) (h : busRead s.cpu.sp s = .ok lo)
    (h' : busRead (s.cpu.sp + 1) s = .ok hi) :
    (pop16 s fun v t => finish n (t.onCpu (g v))) =
      .next (s.after (g (hi ++ lo) { s.cpu with sp := s.cpu.sp + 2 }) n) := by
  rw [pop16_eq h h', finish_onCpu]
  rfl

/-! ## Into a pair -/

theorem encode_ldPair (p : RegPair) (nn : Word) :
    encode (Instr.ldPair p nn) = [0b00#2 ++ p.field ++ 0b0001#4, nn.lo, nn.hi] := by cases p <;> rfl

theorem exec_ldPair_after (p : RegPair) (nn : Word) (s : State) :
    exec (Instr.ldPair p nn) s = .next (s.after (s.cpu.setPair p nn) 12) := exec_ldPair p nn s

/-- Settles O33: a pair is written whole (`exec_ldPair_after`), and the operand's bytes are its halves. -/
theorem loadPair : Obligations.LoadPair := by
  unfold Obligations.LoadPair
  refine ⟨fun p lo hi => ?_, fun nn s => ?_, rfl, fun s => rfl⟩
  · rw [encode_ldPair, Word.lo_append, Word.hi_append]
  · exact ⟨exec_ldPair_after .bc nn s, exec_ldPair_after .de nn s, exec_ldPair_after .hl nn s,
      exec_ldPair_after .sp nn s⟩

/-! ## SP and a displacement -/

/-- The sum is signed; its flags are already stated in numbers (R144, R168). -/
theorem addSp16_eq (sp : Word) (e : Byte) :
    addSp16 sp e =
      { val := BitVec.ofInt 16 ((sp.toNat : Int) + e.toInt)
        fl := ⟨false, false, decide (sp.toNat % 16 + e.toNat % 16 > 0x0F),
          decide (sp.toNat % 256 + e.toNat > 0xFF)⟩ } := by
  rw [← add_signExtend]
  rfl

/-- Settles O34: both instructions write the word and the flags of `addSp16`, which `addSp16_eq` gives in numbers. -/
theorem stackPointerOffset : Obligations.StackPointerOffset := by
  unfold Obligations.StackPointerOffset
  intro e s r fl
  have sum : addSp16 s.cpu.sp e = ⟨r, fl⟩ := addSp16_eq s.cpu.sp e
  refine ⟨rfl, rfl, ?_, ?_⟩
  · change ldHlSpOffset e s = _
    rw [ldHlSpOffset, finish_onCpu, sum]
    rfl
  · change addSpOffset e s = _
    rw [addSpOffset, finish_onCpu, sum]

/-! ## SP into memory -/

/-- Settles O35: the bytes of SP go to the two addresses (`withWrite16_eq`), and no register changes. -/
theorem storeStackPointer : Obligations.StoreStackPointer := by
  unfold Obligations.StoreStackPointer
  refine ⟨fun lo hi => ?_, fun nn s m n wf h h' => ?_⟩
  · rw [encode, Word.lo_append, Word.hi_append]
  · have meaning : exec (.ldIndNnSp nn) s = finish 20 n := withWrite16_eq h h'
    exact ⟨_, meaning.trans (finish_onCpu_of_busWrites 20 id h h'), rfl, (busWrites_readsKept2 wf h h').setCpu _ _⟩

/-! ## PUSH and POP -/

theorem encode_push (q : StackPair) : encode (Instr.push q) = [0b11#2 ++ q.field ++ 0b0101#4] := by cases q <;> rfl

theorem encode_pop (q : StackPair) : encode (Instr.pop q) = [0b11#2 ++ q.field ++ 0b0001#4] := by cases q <;> rfl

theorem exec_push_after {q : StackPair} {s m n : State}
    (h : busWrite (s.cpu.sp - 1) (s.cpu.stackPair q).hi s = .ok m)
    (h' : busWrite (s.cpu.sp - 2) (s.cpu.stackPair q).lo m = .ok n) :
    exec (Instr.push q) s =
      .next { n with cpu := { s.cpu with sp := s.cpu.sp - 2 }, cycles := s.cycles + 16 } :=
  (exec_push q s).trans (push16_after 16 id h h')

theorem exec_pop_after {q : StackPair} {s : State} {lo hi : Byte} (h : busRead s.cpu.sp s = .ok lo)
    (h' : busRead (s.cpu.sp + 1) s = .ok hi) :
    exec (Instr.pop q) s =
      .next (s.after ({ s.cpu with sp := s.cpu.sp + 2 }.setStackPair q (hi ++ lo)) 12) :=
  (exec_pop q s).trans (pop16_after 12 (fun v c => c.setStackPair q v) h h')

/-- Clearing the low nibble leaves bits 7 to 4 above four zeros (R17). -/
theorem and_highNibble (v : Byte) : v &&& 0xF0 = v.extractLsb' 4 4 ++ 0#4 := by
  revert v
  decide

end Sys2Proof.Machine

/-! The model's meanings of PUSH and POP have the names that the two statements' theorems take, so these stand in a
namespace of their own. -/

namespace Sys2Proof.Stack

open Sys2Proof.Machine

/-- Settles O36: the two bytes are the halves of the pair, and they go where a push stores them (`exec_push_after`). -/
theorem pushPair : Obligations.PushPair := by
  unfold Obligations.PushPair
  refine fun q s m n wf => ⟨encode_push q, ?_⟩
  intro hi lo h h'
  have hi_eq : (s.cpu.stackPair q).hi = hi := by cases q <;> exact Word.hi_ofBytes _ _
  have lo_eq : (s.cpu.stackPair q).lo = lo := by cases q <;> exact Word.lo_ofBytes _ _
  rw [← hi_eq] at h
  rw [← lo_eq] at h'
  exact ⟨_, exec_push_after h h', rfl, (busWrites_readsKept2 wf h h').setCpu _ _⟩

/-- Settles O37: the word popped (`exec_pop_after`) is written to the pair by halves, into F without its low nibble
(`and_highNibble`). -/
theorem popPair : Obligations.PopPair := by
  unfold Obligations.PopPair
  intro q s lo hi h h'
  refine ⟨encode_pop q, ?_⟩
  rw [exec_pop_after h h']
  cases q <;> simp only [Cpu.setStackPair, Word.hi_append, Word.lo_append, and_highNibble]

end Sys2Proof.Stack
end

section
/-! PROOFS. 8-bit arithmetic and logic (R149 to R164): each operation of Flags.lean in exact numbers, and the
instructions as these operations on A or on a location; then what DAA is for. -/

namespace Sys2Proof.Machine

/-! ## Results modulo 256 -/

theorem decide_ofNat8_eq_zero (n : Nat) : decide ((BitVec.ofNat 8 n : Byte) = 0) = decide (n % 256 = 0) := by
  rw [decide_eq_decide, ← BitVec.toNat_inj, BitVec.toNat_ofNat]
  rfl

theorem decide_ofInt8_eq_zero (i : Int) : decide ((BitVec.ofInt 8 i : Byte) = 0) = decide (i % 256 = 0) := by
  rw [decide_eq_decide, ← BitVec.toNat_inj, BitVec.toNat_ofInt]
  change (i % 256).toNat = 0 ↔ _
  omega

/-- Byte subtraction is the exact difference modulo 256, a borrow taken off it or not (R151, R152). -/
theorem sub_sub_ofNat8 (a v : Byte) (c : Nat) :
    a - v - BitVec.ofNat 8 c = BitVec.ofInt 8 ((a.toNat : Int) - v.toNat - c) := by
  apply BitVec.eq_of_toNat_eq
  rw [BitVec.toNat_sub, BitVec.toNat_sub, BitVec.toNat_ofNat, BitVec.toNat_ofInt]
  omega

/-! ## The ALU operations in numbers -/

theorem adc8_eq (a v : Byte) (c : Bool) :
    adc8 a v c =
      { val := BitVec.ofNat 8 (a.toNat + v.toNat + carryNat c)
        fl := ⟨decide ((a.toNat + v.toNat + carryNat c) % 256 = 0), false,
          decide (a.toNat % 16 + v.toNat % 16 + carryNat c > 0x0F), decide (a.toNat + v.toNat + carryNat c > 0xFF)⟩ } := by
  simp only [adc8, decide_ofNat8_eq_zero]
  rfl

/-- `ADD` is `ADC` without a carry-in. -/
theorem add8_eq (a v : Byte) :
    add8 a v =
      { val := BitVec.ofNat 8 (a.toNat + v.toNat)
        fl := ⟨decide ((a.toNat + v.toNat) % 256 = 0), false, decide (a.toNat % 16 + v.toNat % 16 > 0x0F),
          decide (a.toNat + v.toNat > 0xFF)⟩ } :=
  adc8_eq a v false

/-- The borrow in, as the number that R152 subtracts. -/
theorem carryNat_cast (c : Bool) : (carryNat c : Int) = if c then 1 else 0 := by cases c <;> rfl

theorem sbc8_eq (a v : Byte) (c : Bool) :
    sbc8 a v c =
      { val := BitVec.ofInt 8 ((a.toNat : Int) - v.toNat - if c then 1 else 0)
        fl := ⟨decide (((a.toNat : Int) - v.toNat - if c then 1 else 0) % 256 = 0), true,
          decide ((a.toNat : Int) % 16 < (v.toNat : Int) % 16 + if c then 1 else 0),
          decide ((a.toNat : Int) < (v.toNat : Int) + if c then 1 else 0)⟩ } := by
  have half : lowNibble a < lowNibble v + carryNat c ↔ (a.toNat : Int) % 16 < (v.toNat : Int) % 16 + carryNat c := by
    unfold lowNibble
    omega
  have carry : a.toNat < v.toNat + carryNat c ↔ (a.toNat : Int) < (v.toNat : Int) + carryNat c := by omega
  simp only [sbc8, sub_sub_ofNat8, decide_ofInt8_eq_zero, half, carry, carryNat_cast]

/-- `SUB` is `SBC` without a borrow in. -/
theorem sub8_eq_sbc8 (a v : Byte) : sub8 a v = sbc8 a v false := by
  simp [sub8, sbc8, carryNat]

theorem sub8_eq (a v : Byte) :
    sub8 a v =
      { val := BitVec.ofInt 8 ((a.toNat : Int) - v.toNat)
        fl := ⟨decide (((a.toNat : Int) - v.toNat) % 256 = 0), true, decide ((a.toNat : Int) % 16 < (v.toNat : Int) % 16),
          decide ((a.toNat : Int) < v.toNat)⟩ } := by
  rw [sub8_eq_sbc8, sbc8_eq]
  simp

/-- Bytes whose difference is 0 modulo 256 are equal. -/
theorem cp8_eq (a v : Byte) :
    cp8 a v =
      { val := a
        fl := ⟨decide ((a.toNat : Int) = v.toNat), true, decide ((a.toNat : Int) % 16 < (v.toNat : Int) % 16),
          decide ((a.toNat : Int) < v.toNat)⟩ } := by
  have zero : ((a.toNat : Int) - v.toNat) % 256 = 0 ↔ (a.toNat : Int) = v.toNat := by omega
  simp only [cp8, sub8_eq, zero]

/-- An ALU operation, from what `aluOut` answers on its operand's value. -/
theorem exec_alu_of_aluOut {op : AluOp} {src : AluSrc} {s : State} {v : Byte} {r : ByteOut} (holds : aluSrcHolds src s v)
    (out : aluOut op s.cpu.a v s.cpu.flags.c = r) :
    exec (Instr.alu op src) s = .next (s.after ({ s.cpu with a := r.val }.setFlags r.fl) (aluCycles src)) := by
  subst out
  exact exec_alu_after holds

/-- Settles O39: the operations are `add8_eq` and `adc8_eq`, the carry-in being C as a number. -/
theorem addAndAdc : Obligations.AddAndAdc := by
  unfold Obligations.AddAndAdc
  intro src s v holds
  exact ⟨encode_alu .add src, encode_alu .adc src, exec_alu_of_aluOut (op := .add) holds (add8_eq s.cpu.a v),
    exec_alu_of_aluOut (op := .adc) holds (adc8_eq s.cpu.a v s.cpu.flags.c)⟩

/-- Settles O40: the operations are `sub8_eq`, `sbc8_eq` and `cp8_eq`; the last leaves A as it was. -/
theorem subSbcAndCp : Obligations.SubSbcAndCp := by
  unfold Obligations.SubSbcAndCp
  intro src s v holds
  exact ⟨encode_alu .sub src, encode_alu .sbc src, encode_alu .cp src, exec_alu_of_aluOut (op := .sub) holds (sub8_eq s.cpu.a v),
    exec_alu_of_aluOut (op := .sbc) holds (sbc8_eq s.cpu.a v s.cpu.flags.c), exec_alu_of_aluOut (op := .cp) holds (cp8_eq s.cpu.a v)⟩

/-- Settles O41: the result byte is the bitwise operation of the two bytes. -/
theorem andXorAndOr : Obligations.AndXorAndOr := by
  unfold Obligations.AndXorAndOr
  intro src s v holds
  exact ⟨encode_alu .and src, encode_alu .xor src, encode_alu .or src,
    ⟨_, fun _ _ => BitVec.getLsbD_and, exec_alu_of_aluOut holds rfl⟩,
    ⟨_, fun _ _ => BitVec.getLsbD_xor, exec_alu_of_aluOut holds rfl⟩,
    ⟨_, fun _ _ => BitVec.getLsbD_or, exec_alu_of_aluOut holds rfl⟩⟩

/-! ## Increment and decrement -/

theorem inc8_eq (old : Byte) (f : Flags) :
    inc8 old f =
      { val := BitVec.ofNat 8 ((old.toNat + 1) % 256)
        fl := ⟨decide (old.toNat = 0xFF), false, decide (old.toNat % 16 = 0x0F), f.c⟩ } := by
  have val : old + 1 = BitVec.ofNat 8 ((old.toNat + 1) % 256) := by bv_omega
  have zero : (old.toNat + 1) % 256 % 256 = 0 ↔ old.toNat = 0xFF := by omega
  rw [inc8, val, decide_ofNat8_eq_zero, decide_eq_decide.mpr zero]
  rfl

theorem dec8_eq (old : Byte) (f : Flags) :
    dec8 old f =
      { val := BitVec.ofNat 8 ((old.toNat + 255) % 256)
        fl := ⟨decide (old.toNat = 0x01), true, decide (old.toNat % 16 = 0x00), f.c⟩ } := by
  have val : old - 1 = BitVec.ofNat 8 ((old.toNat + 255) % 256) := by bv_omega
  have zero : (old.toNat + 255) % 256 % 256 = 0 ↔ old.toNat = 0x01 := by omega
  rw [dec8, val, decide_ofNat8_eq_zero, decide_eq_decide.mpr zero]
  rfl

/-- A write to an operand location leaves F and the cycles. -/
theorem locWritten_keeps {x : Loc} {v : Byte} {s m : State} (h : locWritten x v s m) :
    m.cpu.f = s.cpu.f ∧ m.cycles = s.cycles := by
  cases x with
  | reg r =>
    rw [show m = _ from h]
    exact ⟨s.cpu.setReg_f r v, rfl⟩
  | atHl =>
    obtain ⟨cpu, cycles, -⟩ := busWrite_cpu h
    exact ⟨congrArg Cpu.f cpu, cycles⟩

/-- The whole next state of an instruction that replaces the byte of a location by a function `g` of that byte and the
flags and then writes the flags `g` answers; on `(HL)`, what the write leaves of the memory. -/
theorem exec_of_modify {i : Instr} {x : Loc} {s m : State} {old : Byte} {n : Nat} {g : Byte → Flags → ByteOut} {r : ByteOut}
    (meaning : exec i s = modifyLoc x (fun v => (g v s.cpu.flags).val) s fun v t =>
      finish n (t.onCpu fun c => c.setFlags (g v c.flags).fl))
    (wf : s.mem.wf = true) (holds : locHolds x s old) (out : g old s.cpu.flags = r) (written : locWritten x r.val s m) :
    ∃ t, exec i s = .next t ∧ t = { m with cpu := m.cpu.setFlags r.fl, cycles := s.cycles + n } ∧
      (x = .atHl → readsKept s.cpu.hl s t) := by
  subst out
  obtain ⟨f, cycles⟩ := locWritten_keeps written
  have flags : m.cpu.flags = s.cpu.flags := congrArg Flags.ofByte f
  refine ⟨_, (meaning.trans (modifyLoc_eq holds written)).trans (finish_onCpu ..), ?_, ?_⟩
  · rw [State.after, flags, cycles]
  · rintro rfl
    exact (busWrite_readsKept wf written).setCpu _ _

theorem encode_inc8 (x : Loc) : encode (Instr.inc8 x) = [0b00#2 ++ x.field ++ 0b100#3] := by
  rcases x with ⟨⟨⟩⟩ | ⟨⟩ <;> rfl

theorem encode_dec8 (x : Loc) : encode (Instr.dec8 x) = [0b00#2 ++ x.field ++ 0b101#3] := by
  rcases x with ⟨⟨⟩⟩ | ⟨⟩ <;> rfl

/-- Settles O42: each replaces the byte of its location (`exec_of_modify`) as `inc8_eq` and `dec8_eq` say. -/
theorem incrementAndDecrement : Obligations.IncrementAndDecrement := by
  unfold Obligations.IncrementAndDecrement
  intro x s m old wf holds
  exact ⟨encode_inc8 x, encode_dec8 x, exec_of_modify (exec_inc8 x s) wf holds (inc8_eq old s.cpu.flags),
    exec_of_modify (exec_dec8 x s) wf holds (dec8_eq old s.cpu.flags)⟩

/-! ## DAA -/

theorem ite_add_ofNat8 (p : Prop) [Decidable p] (a : Byte) (k : Nat) :
    (if p then a + BitVec.ofNat 8 k else a) = a + BitVec.ofNat 8 (if p then k else 0) := by
  split <;> simp

/-- What R161 adds to the high digit after an addition, or subtracts from it after a subtraction. -/
def daaHigh (a : Nat) (f : Flags) : Nat := if f.c ∨ (f.n = false ∧ a > 0x99) then 0x60 else 0

/-- What R161 adds to the low digit, or subtracts from it. -/
def daaLow (a : Nat) (f : Flags) : Nat := if f.h ∨ (f.n = false ∧ a % 16 > 0x09) then 0x06 else 0

/-- A after `DAA`, as R161 is stated in numbers; the 512 keeps the difference of naturals exact. -/
def daaResult (a : Nat) (f : Flags) : Byte :=
  if f.n then BitVec.ofNat 8 (a + 512 - daaHigh a f - daaLow a f) else BitVec.ofNat 8 (a + daaHigh a f + daaLow a f)

/-- The adjustment of the high digit leaves the low one, so the second test of R161's addition may look at A itself. -/
theorem daaAdd_eq {a : Byte} {f : Flags} (add : f.n = false) :
    daaAdd a f = (daaResult a.toNat f, f.c || decide (a.toNat > 0x99)) := by
  have low (p : Prop) [Decidable p] : lowNibble (a + BitVec.ofNat 8 (if p then 0x60 else 0)) = a.toNat % 16 := by
    rw [lowNibble, BitVec.toNat_add, BitVec.toNat_ofNat]
    split <;> omega
  simp [daaAdd, low, daaResult, daaHigh, daaLow, add, ite_add_ofNat8, BitVec.ofNat_add]

theorem daaSub_eq {a : Byte} {f : Flags} (sub : f.n = true) : daaSub a f = (daaResult a.toNat f, f.c) := by
  obtain ⟨z, n, h, c⟩ := f
  subst sub
  cases c <;> cases h <;> simp [daaSub, daaResult, daaHigh, daaLow] <;> bv_omega

theorem daa8_eq (a : Byte) (f : Flags) :
    daa8 a f =
      { val := daaResult a.toNat f
        fl := ⟨decide (daaResult a.toNat f = 0), f.n, false, f.c || decide (f.n = false ∧ a.toNat > 0x99)⟩ } := by
  cases n : f.n with
  | false => simp [daa8, n, daaAdd_eq n]
  | true => simp [daa8, n, daaSub_eq n]

/-- An adjustment of A, from what its function answers on A and the flags. -/
theorem onAcc_after {g : Byte → Flags → ByteOut} {s : State} {r : ByteOut} (out : g s.cpu.a s.cpu.flags = r) :
    onAcc g s = .next (s.after ({ s.cpu with a := r.val }.setFlags r.fl) 4) := by
  subst out
  rfl

/-- Settles O43: the numbers are those of `daa8_eq`. -/
theorem decimalAdjust : Obligations.DecimalAdjust := by
  unfold Obligations.DecimalAdjust
  exact fun s => ⟨rfl, onAcc_after (g := daa8) (daa8_eq s.cpu.a s.cpu.flags)⟩

/-! ## DAA after an addition or a subtraction of BCD numbers -/

/-- The two BCD digits of `n` modulo 100. -/
def bcd (n : Nat) : Nat := n % 100 / 10 * 16 + n % 10

theorem bcd_eq {n : Nat} (h : n < 100) : bcd n = n / 10 * 16 + n % 10 := by
  rw [bcd, Nat.mod_eq_of_lt h]

theorem bcd_mod_256 (n : Nat) : bcd n % 256 = bcd n := by
  unfold bcd
  omega

/-- `DAA` on what an ALU operation leaves sees the operation's result and flags. -/
theorem exec_alu_daa {op : AluOp} {v : Byte} {s t u : State} {r : ByteOut} (h : exec (Instr.alu op (.imm v)) s = .next t)
    (h' : exec .daa t = .next u) (out : aluOut op s.cpu.a v s.cpu.flags.c = r) :
    u.cpu.a = (daa8 r.val r.fl).val ∧ u.cpu.f.getLsbD 4 = (daa8 r.val r.fl).fl.c := by
  cases h.symm.trans (exec_alu_of_aluOut rfl out)
  have flags : ({ s.cpu with a := r.val }.setFlags r.fl).flags = r.fl := Cpu.flags_setFlags _ _
  cases h'.symm.trans (onAcc_after (g := daa8) (congrArg (daa8 r.val) flags))
  exact ⟨rfl, congrArg Flags.c (Cpu.flags_setFlags _ _)⟩

/-- Decimal addition of BCD bytes: each decimal carry is a binary 6 in its digit, and the last one leaves the byte. -/
theorem bcd_add {x y : Nat} (hx : x < 100) (hy : y < 100) :
    bcd (x + y) + (if 100 ≤ x + y then 0x100 - 0x60 else 0) =
      bcd x + bcd y + (if 10 ≤ x % 10 + y % 10 then 0x06 else 0) := by
  rw [bcd_eq hx, bcd_eq hy, bcd]
  split <;> split <;> omega

/-- Decimal subtraction of BCD bytes: each decimal borrow is a binary 6 in its digit, and the last one enters the byte. -/
theorem bcd_sub {x y : Nat} (hx : x < 100) (hy : y < 100) :
    bcd (x + 100 - y) + bcd y + (if x % 10 < y % 10 then 0x06 else 0) =
      bcd x + (if x < y then 0x100 - 0x60 else 0) := by
  rw [bcd_eq hx, bcd_eq hy, bcd]
  split <;> split <;> omega

/-- After an addition, the tests of R161 find the decimal carries, and the adjustments are those of `bcd_add`. -/
theorem daa8_add8_bcd {x y : Nat} (hx : x < 100) (hy : y < 100) {r : ByteOut}
    (out : add8 (BitVec.ofNat 8 (bcd x)) (BitVec.ofNat 8 (bcd y)) = r) :
    (daa8 r.val r.fl).val = BitVec.ofNat 8 (bcd (x + y)) ∧ (daa8 r.val r.fl).fl.c = decide (100 ≤ x + y) := by
  subst out
  have digits_x := bcd_eq hx
  have digits_y := bcd_eq hy
  have high : 0xFF < bcd x + bcd y ∨ 0x99 < (bcd x + bcd y) % 256 ↔ 100 ≤ x + y := by omega
  have low : 0x0F < bcd x % 16 + bcd y % 16 ∨ 0x09 < (bcd x + bcd y) % 16 ↔ 10 ≤ x % 10 + y % 10 := by omega
  have carry : (decide (0xFF < bcd x + bcd y) || decide (0x99 < (bcd x + bcd y) % 256)) = decide (100 ≤ x + y) := by
    rw [← Bool.decide_or, decide_eq_decide.mpr high]
  have val : BitVec.ofNat 8 ((bcd x + bcd y) % 256 + (if 100 ≤ x + y then 0x60 else 0) +
      (if 10 ≤ x % 10 + y % 10 then 0x06 else 0)) = BitVec.ofNat 8 (bcd (x + y)) := by
    have sum := bcd_add hx hy
    apply BitVec.eq_of_toNat_eq
    rw [BitVec.toNat_ofNat, BitVec.toNat_ofNat]
    split_ifs at sum ⊢ <;> omega
  simp [daa8_eq, add8_eq, daaResult, daaHigh, daaLow, bcd_mod_256, high, low, carry, val]

/-- After a subtraction, C and H are the decimal borrows, and the adjustments are those of `bcd_sub`. -/
theorem daa8_sub8_bcd {x y : Nat} (hx : x < 100) (hy : y < 100) {r : ByteOut}
    (out : sub8 (BitVec.ofNat 8 (bcd x)) (BitVec.ofNat 8 (bcd y)) = r) :
    (daa8 r.val r.fl).val = BitVec.ofNat 8 (bcd (x + 100 - y)) ∧ (daa8 r.val r.fl).fl.c = decide (x < y) := by
  subst out
  have digits_x := bcd_eq hx
  have digits_y := bcd_eq hy
  have high : (bcd x : Int) < bcd y ↔ x < y := by omega
  have low : (bcd x : Int) % 16 < (bcd y : Int) % 16 ↔ x % 10 < y % 10 := by omega
  have val : BitVec.ofNat 8 ((((bcd x : Int) - bcd y) % 256).toNat + 512 - (if x < y then 0x60 else 0) -
      (if x % 10 < y % 10 then 0x06 else 0)) = BitVec.ofNat 8 (bcd (x + 100 - y)) := by
    have difference := bcd_sub hx hy
    clear digits_x digits_y
    apply BitVec.eq_of_toNat_eq
    rw [BitVec.toNat_ofNat, BitVec.toNat_ofNat]
    split_ifs at difference ⊢ <;> omega
  simp [daa8_eq, sub8_eq, daaResult, daaHigh, daaLow, bcd_mod_256, high, low, val]

/-- Settles O44: DAA sees what the ALU operation answers on the two BCD bytes (`exec_alu_daa`), which `daa8_add8_bcd` and
`daa8_sub8_bcd` follow to the end. -/
theorem decimalAdjustGivesBcd : Obligations.DecimalAdjustGivesBcd := by
  unfold Obligations.DecimalAdjustGivesBcd
  intro x y s t u hx hy a
  rw [← bcd_eq hx] at a
  rw [← bcd_eq hy]
  constructor
  · intro h h'
    obtain ⟨val, carry⟩ := exec_alu_daa (op := .add) h h' (congrArg (add8 · _) a)
    obtain ⟨sum, carry_eq⟩ := daa8_add8_bcd hx hy rfl
    exact ⟨val.trans sum, carry.trans carry_eq⟩
  · intro h h'
    obtain ⟨val, borrow⟩ := exec_alu_daa (op := .sub) h h' (congrArg (sub8 · _) a)
    obtain ⟨difference, borrow_eq⟩ := daa8_sub8_bcd hx hy rfl
    exact ⟨val.trans difference, borrow.trans borrow_eq⟩

/-! ## The other adjustments -/

/-- Settles O45: each writes the flags named, and complementing is XOR with 0xFF. -/
theorem complementAndCarryFlag : Obligations.ComplementAndCarryFlag := by
  unfold Obligations.ComplementAndCarryFlag
  intro s z c
  have val : ~~~s.cpu.a = s.cpu.a ^^^ 0xFF := BitVec.xor_allOnes.symm
  refine ⟨rfl, rfl, rfl, ?_, rfl, rfl⟩
  rw [val]
  rfl

end Sys2Proof.Machine
end

section
/-! PROOFS. 16-bit arithmetic (R165 to R167; the displacement of SP, R168, is with the stack): sums of words in exact
numbers, and the instructions as such sums on a pair. -/

namespace Sys2Proof.Machine

/-! ## Sums modulo 65536 -/

theorem ofNat16_mod (n : Nat) : BitVec.ofNat 16 (n % 65536) = BitVec.ofNat 16 n :=
  BitVec.eq_of_toNat_eq (Nat.mod_mod n 65536)

theorem add_ofNat16 (w : Word) (n : Nat) : w + BitVec.ofNat 16 n = BitVec.ofNat 16 ((w.toNat + n) % 65536) := by
  rw [ofNat16_mod, BitVec.ofNat_add, BitVec.ofNat_toNat, BitVec.setWidth_eq]

theorem addHl16_eq (hl v : Word) (f : Flags) :
    addHl16 hl v f =
      { val := BitVec.ofNat 16 ((hl.toNat + v.toNat) % 65536)
        fl := ⟨f.z, false, decide (hl.toNat % 4096 + v.toNat % 4096 > 0x0FFF), decide (hl.toNat + v.toNat > 0xFFFF)⟩ } := by
  rw [ofNat16_mod]
  rfl

/-! ## The instructions -/

theorem encode_addHl (p : RegPair) : encode (Instr.addHl p) = [0b00#2 ++ p.field ++ 0b1001#4] := by cases p <;> rfl

theorem encode_inc16 (p : RegPair) : encode (Instr.inc16 p) = [0b00#2 ++ p.field ++ 0b0011#4] := by cases p <;> rfl

theorem encode_dec16 (p : RegPair) : encode (Instr.dec16 p) = [0b00#2 ++ p.field ++ 0b1011#4] := by cases p <;> rfl

theorem exec_addHl_after {p : RegPair} {s : State} {v : Nat} (holds : (s.cpu.pair p).toNat = v) :
    exec (Instr.addHl p) s = .next (s.after
      ((s.cpu.setPair .hl (BitVec.ofNat 16 ((s.cpu.hl.toNat + v) % 65536))).setFlags
        ⟨s.cpu.f.getLsbD 7, false, decide (s.cpu.hl.toNat % 4096 + v % 4096 > 0x0FFF),
          decide (s.cpu.hl.toNat + v > 0xFFFF)⟩) 8) := by
  subst holds
  rw [exec_addHl, addHlPair, finish_onCpu, addHl16_eq]
  rfl

theorem stepPair_after {p : RegPair} {s : State} {v : Nat} (n : Nat) (holds : (s.cpu.pair p).toNat = v) :
    stepPair p (BitVec.ofNat 16 n) s = .next (s.after (s.cpu.setPair p (BitVec.ofNat 16 ((v + n) % 65536))) 8) := by
  subst holds
  rw [stepPair, finish_onCpu, add_ofNat16]

/-- Settles O46: `ADD HL,rr` writes the sum and the flags of `addHl16_eq`, and the steps (`stepPair_after`) add 1 and, as
-1 is that modulo 65536, 65535. -/
theorem pairArithmetic : Obligations.PairArithmetic := by
  unfold Obligations.PairArithmetic
  intro p s hl v written r
  have holds : (s.cpu.pair p).toNat = v := by cases p <;> rfl
  have written_eq (w : Word) : s.cpu.setPair p w = written w := by cases p <;> rfl
  refine ⟨encode_addHl p, encode_inc16 p, encode_dec16 p, exec_addHl_after holds, ?_, ?_⟩
  · rw [exec_inc16, ← written_eq]
    exact stepPair_after 1 holds
  · rw [exec_dec16, ← written_eq]
    exact stepPair_after 65535 holds

end Sys2Proof.Machine
end

section
/-! PROOFS. Rotates, shifts and single bits (R169 to R184): the second byte of the extended map by its fields, the bytes
that a rotate or shift makes as shifts and ORs, and the instructions as such changes of A or of a location. -/

namespace Sys2Proof.Machine

/-! ## The second byte -/

/-- The extended map read backwards: the instruction of three fields is written 0xCB and the byte of the fields. -/
theorem encode_cbOfFields (x : BitVec 2) (y z : BitVec 3) : encode (cbOfFields x y z) = [0xCB, x ++ y ++ z] := by
  have hx : (x ++ y ++ z : Byte).extractLsb' 6 2 = x :=
    (BitVec.extractLsb'_append_eq_of_le (by decide)).trans BitVec.extractLsb'_append_eq_left
  have hy : (x ++ y ++ z : Byte).extractLsb' 3 3 = y :=
    (BitVec.extractLsb'_append_eq_of_le (by decide)).trans BitVec.extractLsb'_append_eq_right
  have hz : (x ++ y ++ z : Byte).extractLsb' 0 3 = z := BitVec.extractLsb'_append_eq_right
  have row := cbInstr_eq_cbOfFields (x ++ y ++ z)
  rw [hx, hy, hz] at row
  rw [← row, encode_cbInstr]

theorem Loc.ofField_field (x : Loc) : Loc.ofField x.field = x := by rcases x with ⟨⟨⟩⟩ | ⟨⟩ <;> rfl

theorem ShiftOp.ofField_field (op : ShiftOp) : ShiftOp.ofField op.field = op := by cases op <;> rfl

theorem encode_shift (op : ShiftOp) (x : Loc) :
    encode (Instr.shift op x) = [0xCB, 0b00#2 ++ op.field ++ x.field] := by
  have row : cbOfFields 0b00#2 op.field x.field = Instr.shift (ShiftOp.ofField op.field) (Loc.ofField x.field) := rfl
  rw [← encode_cbOfFields, row, ShiftOp.ofField_field, Loc.ofField_field]

theorem encode_bitLoc (b : Fin 8) (x : Loc) :
    encode (Instr.bitLoc b x) = [0xCB, 0b01#2 ++ (BitVec.ofFin b : BitVec 3) ++ x.field] := by
  have row : cbOfFields 0b01#2 (BitVec.ofFin b) x.field = Instr.bitLoc b (Loc.ofField x.field) := rfl
  rw [← encode_cbOfFields, row, Loc.ofField_field]

theorem encode_resLoc (b : Fin 8) (x : Loc) :
    encode (Instr.resLoc b x) = [0xCB, 0b10#2 ++ (BitVec.ofFin b : BitVec 3) ++ x.field] := by
  have row : cbOfFields 0b10#2 (BitVec.ofFin b) x.field = Instr.resLoc b (Loc.ofField x.field) := rfl
  rw [← encode_cbOfFields, row, Loc.ofField_field]

theorem encode_setLoc (b : Fin 8) (x : Loc) :
    encode (Instr.setLoc b x) = [0xCB, 0b11#2 ++ (BitVec.ofFin b : BitVec 3) ++ x.field] := by
  have row : cbOfFields 0b11#2 (BitVec.ofFin b) x.field = Instr.setLoc b (Loc.ofField x.field) := rfl
  rw [← encode_cbOfFields, row, Loc.ofField_field]

/-! ## Rotates and shifts as shifts and ORs

The model puts a result together from slices of the byte; the rules of R169 to R181 shift it and OR the parts. -/

/-- Bits moved up by `n`, with `b` below them. -/
theorem low_append (m n : Nat) (v : BitVec (m + n)) (b : BitVec n) :
    v.extractLsb' 0 m ++ b = (v <<< n) ||| b.setWidth (m + n) := by
  ext i hi
  simp only [BitVec.getElem_append, BitVec.getElem_or, BitVec.getElem_shiftLeft, BitVec.getElem_setWidth]
  by_cases below : i < n
  · simp [below]
  · have noBit : b.getLsbD i = false := BitVec.getLsbD_of_ge b i (by omega)
    simp [below, noBit, BitVec.getLsbD_eq_getElem (show i - n < m + n by omega)]

/-- Bits moved down by `m`, with `b` above them. -/
theorem append_high (m n : Nat) (b : BitVec m) (v : BitVec (m + n)) :
    b ++ v.extractLsb' m n = (v >>> m) ||| (b.setWidth (m + n) <<< n) := by
  ext i hi
  simp only [BitVec.getElem_append, BitVec.getElem_or, BitVec.getElem_shiftLeft, BitVec.getElem_ushiftRight]
  by_cases below : i < n
  · simp [below]
  · have noBit : v.getLsbD (m + i) = false := BitVec.getLsbD_of_ge v (m + i) (by omega)
    simp [below, noBit, BitVec.getLsbD_eq_getElem (show i - n < m by omega)]

/-- A shift up by `n` loses all but the low `m` bits. -/
theorem shiftLeft_low (m n : Nat) (v : BitVec (m + n)) : (v.extractLsb' 0 m).setWidth (m + n) <<< n = v <<< n := by
  ext i hi
  simp only [BitVec.getElem_shiftLeft]
  by_cases below : i < n
  · simp [below]
  · simp [show i - n < m by omega, show i - n < m + n by omega]

/-- The high `n` bits alone. -/
theorem setWidth_high (m n : Nat) (v : BitVec (m + n)) : (v.extractLsb' m n).setWidth (m + n) = v >>> m := by
  rw [← BitVec.setWidth_ushiftRight_eq_extractLsb]
  ext i hi
  by_cases below : i < n
  · simp [below]
  · simp [below, BitVec.getLsbD_of_ge v (m + i) (by omega)]

/-- A single bit of a byte, as a slice of it. -/
theorem ofBool_getLsbD (v : Byte) (k : Nat) : BitVec.ofBool (v.getLsbD k) = v.extractLsb' k 1 := by
  ext i hi
  simp [show i = 0 by omega]

/-- A carry as a byte. -/
theorem setWidth_ofBool (c : Bool) : (BitVec.ofBool c).setWidth 8 = if c then 1 else 0 := by cases c <;> rfl

/-- A shift to the left brings in `b` as bit 0. -/
theorem shiftLeft_in (v : Byte) (b : BitVec 1) : (v.extractLsb' 0 7 ++ b : Byte) = (v <<< 1) ||| b.setWidth 8 :=
  low_append 7 1 v b

/-- A shift to the right brings in `b` as bit 7. -/
theorem shiftRight_in (b : BitVec 1) (v : Byte) :
    (b ++ v.extractLsb' 1 7 : Byte) = (v >>> 1) ||| (b.setWidth 8 <<< 7) :=
  append_high 1 7 b v

theorem shiftVal_rlc (v : Byte) (c : Bool) : shiftVal .rlc v c = ((v <<< 1) ||| (v >>> 7), v.getLsbD 7) := by
  have top : (v.extractLsb' 7 1).setWidth 8 = v >>> 7 := setWidth_high 7 1 v
  rw [shiftVal, ofBool_getLsbD, shiftLeft_in, top]

theorem shiftVal_rrc (v : Byte) (c : Bool) : shiftVal .rrc v c = ((v >>> 1) ||| (v <<< 7), v.getLsbD 0) := by
  have bottom : (v.extractLsb' 0 1).setWidth 8 <<< 7 = v <<< 7 := shiftLeft_low 1 7 v
  rw [shiftVal, ofBool_getLsbD, shiftRight_in, bottom]

theorem shiftVal_rl (v : Byte) (c : Bool) :
    shiftVal .rl v c = ((v <<< 1) ||| (if c then 1 else 0), v.getLsbD 7) := by
  rw [shiftVal, shiftLeft_in, setWidth_ofBool]

theorem shiftVal_rr (v : Byte) (c : Bool) :
    shiftVal .rr v c = ((v >>> 1) ||| ((if c then 1 else 0 : Byte) <<< 7), v.getLsbD 0) := by
  rw [shiftVal, shiftRight_in, setWidth_ofBool]

theorem shiftVal_sla (v : Byte) (c : Bool) : shiftVal .sla v c = (v <<< 1, v.getLsbD 7) := by
  rw [shiftVal, shiftLeft_in, BitVec.setWidth_zero, BitVec.or_zero]

theorem shiftVal_sra (v : Byte) (c : Bool) : shiftVal .sra v c = ((v >>> 1) ||| (v &&& 0x80), v.getLsbD 0) := by
  have sign : (v.extractLsb' 7 1).setWidth 8 <<< 7 = v &&& 0x80 := by
    rw [setWidth_high 7 1 v, BitVec.shiftLeft_ushiftRight]
    rfl
  rw [shiftVal, ofBool_getLsbD, shiftRight_in, sign]

theorem shiftVal_swap (v : Byte) (c : Bool) : shiftVal .swap v c = ((v <<< 4) ||| (v >>> 4), false) := by
  have halves : (v.extractLsb' 0 4 ++ v.extractLsb' 4 4 : Byte) = (v <<< 4) ||| (v >>> 4) := by
    rw [low_append 4 4 v, setWidth_high 4 4 v]
  rw [shiftVal, halves]

theorem shiftVal_srl (v : Byte) (c : Bool) : shiftVal .srl v c = (v >>> 1, v.getLsbD 0) := by
  rw [shiftVal, shiftRight_in, BitVec.setWidth_zero, BitVec.zero_shiftLeft, BitVec.or_zero]

/-! ## The instructions -/

/-- An accumulator rotate, from its result and the bit it moves out. -/
theorem rotateAcc_after {op : ShiftOp} {s : State} {r : Byte} {c : Bool}
    (out : shiftVal op s.cpu.a s.cpu.flags.c = (r, c)) :
    rotateAcc op s = .next (s.after ({ s.cpu with a := r }.setFlags ⟨false, false, false, c⟩) 4) := by
  rw [rotateAcc, finish_onCpu]
  simp only [rotateA8, out]

/-- Settles O47: each rotate of A is its CB form with Z cleared (`rotateAcc_after`). -/
theorem accumulatorRotates : Obligations.AccumulatorRotates := by
  unfold Obligations.AccumulatorRotates
  intro s a carry
  exact ⟨rfl, rfl, rfl, rfl, rotateAcc_after (shiftVal_rlc a _), rotateAcc_after (shiftVal_rrc a _),
    rotateAcc_after (shiftVal_rl a _), rotateAcc_after (shiftVal_rr a _)⟩

/-- A CB rotate or shift, from its result and the bit it moves out. -/
theorem exec_shift_of_shiftVal {op : ShiftOp} {x : Loc} {s m : State} {v r : Byte} {c : Bool} (wf : s.mem.wf = true)
    (holds : locHolds x s v) (out : shiftVal op v s.cpu.flags.c = (r, c)) (written : locWritten x r s m) :
    ∃ t, exec (Instr.shift op x) s = .next t ∧
      t = { m with
        cpu := m.cpu.setFlags ⟨decide (r = 0), false, false, c⟩
        cycles := s.cycles + (if x = .atHl then 16 else 8) } ∧
      (x = .atHl → readsKept s.cpu.hl s t) := by
  have result : shift8 op v s.cpu.flags.c = ⟨r, ⟨decide (r = 0), false, false, c⟩⟩ := by simp only [shift8, out]
  exact (exec_of_modify (g := fun v f => shift8 op v f.c) (exec_shift op x s) wf holds result written :)

/-- Settles O48: each replaces the byte of its location (`exec_shift_of_shiftVal`) by what the lemma about `shiftVal` of
its operation says. -/
theorem rotatesAndShifts : Obligations.RotatesAndShifts := by
  unfold Obligations.RotatesAndShifts
  intro op x s m v wf holds carry r c
  have out : shiftVal op v s.cpu.flags.c = (r, c) := by
    cases op with
    | rlc => exact shiftVal_rlc v _
    | rrc => exact shiftVal_rrc v _
    | rl => exact shiftVal_rl v _
    | rr => exact shiftVal_rr v _
    | sla => exact shiftVal_sla v _
    | sra => exact shiftVal_sra v _
    | swap => exact shiftVal_swap v _
    | srl => exact shiftVal_srl v _
  exact ⟨encode_shift op x, exec_shift_of_shiftVal wf holds out⟩

/-! ## Single bits -/

/-- Bit `k` of the mask of bit `b`. -/
theorem getLsbD_bitMask (b : Fin 8) (k : Nat) : ((1 : Byte) <<< b.val).getLsbD k = decide (k = b.val) := by
  rw [show (1 : Byte) = 1#8 from rfl, ← BitVec.twoPow_eq, BitVec.getLsbD_twoPow]
  simp [eq_comm]

theorem getLsbD_res8 (b : Fin 8) (v : Byte) {k : Nat} (hk : k < 8) :
    (res8 b v).getLsbD k = (decide (k ≠ b.val) && v.getLsbD k) := by
  rw [res8, BitVec.getLsbD_and, BitVec.getLsbD_not, getLsbD_bitMask]
  simp [hk, Bool.and_comm]

theorem getLsbD_set8 (b : Fin 8) (v : Byte) (k : Nat) :
    (set8 b v).getLsbD k = (decide (k = b.val) || v.getLsbD k) := by
  rw [set8, BitVec.getLsbD_or, getLsbD_bitMask, Bool.or_comm]

/-- `BIT` reads its location and writes flags alone. -/
theorem exec_bitLoc_after {b : Fin 8} {x : Loc} {s : State} {v : Byte} (holds : locHolds x s v) :
    exec (Instr.bitLoc b x) s = .next (s.after
      (s.cpu.setFlags ⟨!v.getLsbD b, false, true, s.cpu.f.getLsbD 4⟩) (if x = .atHl then 12 else 8)) := by
  rw [exec_bitLoc, bitLoc, readLoc_eq holds, finish_onCpu]
  rfl

/-- The whole next state of an instruction that replaces the byte of a location and writes no flag; on `(HL)`, what the
write leaves of the memory. -/
theorem exec_of_replace {i : Instr} {x : Loc} {s m : State} {old : Byte} {n : Nat} {g : Byte → Byte}
    (meaning : exec i s = modifyLoc x g s fun _ t => finish n t) (wf : s.mem.wf = true) (holds : locHolds x s old)
    (written : locWritten x (g old) s m) :
    ∃ t, exec i s = .next t ∧ t = { m with cycles := s.cycles + n } ∧ (x = .atHl → readsKept s.cpu.hl s t) := by
  obtain ⟨-, cycles⟩ := locWritten_keeps written
  refine ⟨m.charge n, meaning.trans (modifyLoc_eq holds written), ?_, ?_⟩
  · rw [← cycles]
    rfl
  · rintro rfl
    exact (busWrite_readsKept wf written).setCpu _ _

/-- Settles O49: `BIT` is `exec_bitLoc_after`; the bits that R183 and R184 name make the byte that `RES` and `SET` write
(`getLsbD_res8`, `getLsbD_set8`), and writing it is `exec_of_replace`. -/
theorem singleBitOperations : Obligations.SingleBitOperations := by
  unfold Obligations.SingleBitOperations
  intro b x s m v wf holds bits
  refine ⟨encode_bitLoc b x, encode_resLoc b x, encode_setLoc b x, exec_bitLoc_after holds, fun r hr written => ?_,
    fun r hr written => ?_⟩
  · obtain rfl : r = res8 b v := BitVec.eq_of_getLsbD_eq fun k hk => (hr k hk).trans (getLsbD_res8 b v hk).symm
    exact exec_of_replace (exec_resLoc b x s) wf holds written
  · obtain rfl : r = set8 b v := BitVec.eq_of_getLsbD_eq fun k hk => (hr k hk).trans (getLsbD_set8 b v k).symm
    exact exec_of_replace (exec_setLoc b x s) wf holds written

end Sys2Proof.Machine
end

section
/-! PROOFS. Calls, restarts and returns (R190 to R195, R212): a push or a pop with PC as the register changed. -/

namespace Sys2Proof.Machine

/-! ## Calls and restarts -/

theorem encode_callCond (cc : Cond) (nn : Word) :
    encode (Instr.callCond cc nn) = [0b110#3 ++ cc.field ++ 0b100#3, nn.lo, nn.hi] := by cases cc <;> rfl

theorem encode_rst (y : Fin 8) : encode (Instr.rst y) = [0b11#2 ++ BitVec.ofFin (w := 3) y ++ 0b111#3] := by
  fin_cases y <;> rfl

theorem exec_callCond_taken {cc : Cond} {nn : Word} {s : State} (taken : condHolds cc s.cpu.flags = true) :
    exec (Instr.callCond cc nn) s = callTo nn 24 s := by
  rw [exec_callCond, callIf, if_pos taken]

theorem exec_callCond_not_taken {cc : Cond} {nn : Word} {s : State} (not_taken : condHolds cc s.cpu.flags = false) :
    exec (Instr.callCond cc nn) s = .next (s.after s.cpu 12) := by
  rw [exec_callCond, callIf, if_neg (ne_true_of_eq_false not_taken)]
  rfl

/-- A call is a push of PC that leaves PC at the target. -/
theorem callTo_after {target : Word} {s m n : State} (cost : Nat)
    (h : busWrite (s.cpu.sp - 1) s.cpu.pc.hi s = .ok m) (h' : busWrite (s.cpu.sp - 2) s.cpu.pc.lo m = .ok n) :
    callTo target cost s =
      .next { n with cpu := { s.cpu with sp := s.cpu.sp - 2, pc := target }, cycles := s.cycles + cost } :=
  push16_after cost (fun c => { c with pc := target }) h h'

/-- Settles O51: a call taken and a restart are one meaning (`callTo_after`), and its two stores leave the rest of the
memory (`busWrites_readsKept2`). -/
theorem callsAndRestarts : Obligations.CallsAndRestarts := by
  unfold Obligations.CallsAndRestarts
  refine ⟨fun lo hi => ⟨?_, fun cc => ?_⟩, encode_rst, fun cc nn s => exec_callCond_not_taken,
    fun i target cost s m n wf form h h' => ?_⟩
  · rw [encode, Word.lo_append, Word.hi_append]
  · rw [encode_callCond, Word.lo_append, Word.hi_append]
  · have meaning : exec i s = callTo target cost s := by
      obtain ⟨rfl, rfl⟩ | ⟨cc, rfl, taken, rfl⟩ | ⟨y, rfl, rfl, rfl⟩ := form
      · rfl
      · exact exec_callCond_taken taken
      · exact exec_rst y s
    exact ⟨_, meaning.trans (callTo_after cost h h'), rfl, (busWrites_readsKept2 wf h h').setCpu _ _⟩

/-! ## Returns -/

theorem encode_retCond (cc : Cond) : encode (Instr.retCond cc) = [0b110#3 ++ cc.field ++ 0b000#3] := by
  cases cc <;> rfl

theorem exec_retCond_taken {cc : Cond} {s : State} (taken : condHolds cc s.cpu.flags = true) :
    exec (Instr.retCond cc) s = retFrom 20 s := by
  rw [exec_retCond, retIf, if_pos taken]

theorem exec_retCond_not_taken {cc : Cond} {s : State} (not_taken : condHolds cc s.cpu.flags = false) :
    exec (Instr.retCond cc) s = .next (s.after s.cpu 8) := by
  rw [exec_retCond, retIf, if_neg (ne_true_of_eq_false not_taken)]
  rfl

/-- A return is a pop into PC. -/
theorem retFrom_after {s : State} {lo hi : Byte} (cost : Nat) (h : busRead s.cpu.sp s = .ok lo)
    (h' : busRead (s.cpu.sp + 1) s = .ok hi) :
    retFrom cost s = .next (s.after { s.cpu with sp := s.cpu.sp + 2, pc := hi ++ lo } cost) :=
  pop16_after cost (fun pc c => { c with pc := pc }) h h'

/-- `RETI` is a pop into PC that also sets IME. -/
theorem exec_reti_after {s : State} {lo hi : Byte} (h : busRead s.cpu.sp s = .ok lo)
    (h' : busRead (s.cpu.sp + 1) s = .ok hi) :
    exec .reti s = .next (s.after { s.cpu with sp := s.cpu.sp + 2, pc := hi ++ lo, ime := true } 16) :=
  pop16_after 16 (fun pc c => { c with pc := pc, ime := true }) h h'

/-- Settles O52: the returns taken are `retFrom_after` and `exec_reti_after`, and one not taken
(`exec_retCond_not_taken`) pops nothing. -/
theorem returns : Obligations.Returns := by
  unfold Obligations.Returns
  refine ⟨rfl, rfl, encode_retCond, fun cc s => exec_retCond_not_taken, fun s lo hi h h' => ?_⟩
  exact ⟨retFrom_after 16 h h', exec_reti_after h h',
    fun cc taken => (exec_retCond_taken taken).trans (retFrom_after 20 h h')⟩

end Sys2Proof.Machine
end

section
/-! PROOFS. A drawn line is the background picture (R219, R224 to R229): the fetcher's addresses are the picture's, the
FIFO holds the pixels between the last one drawn and the last one fetched, and the fetcher never waits for room. -/

namespace Sys2Proof.Machine

/-! ## The background picture -/

/-- `q` has the registers that the background picture of a line depends on as `p` has them. -/
structure Ppu.PictureInputsKept (p q : Ppu) : Prop where
  ly : q.ly = p.ly
  lcdc : q.lcdc = p.lcdc
  scy : q.scy = p.scy
  scx : q.scx = p.scx
  bgp : q.bgp = p.bgp

theorem bgPixel_congr {p q : Ppu} (kept : p.PictureInputsKept q) (mem : Memory) : bgPixel mem q = bgPixel mem p := by
  funext x
  unfold bgPixel
  rw [kept.ly, kept.lcdc, kept.scy, kept.scx]

/-- The row of the background that the fetcher reads, modulo 256 (R225). -/
theorem Ppu.backgroundRow_toNat (p : Ppu) : (p.lyByte + p.scy).toNat = (p.ly + p.scy.toNat) % 256 := by
  rw [BitVec.toNat_add, Ppu.lyByte, BitVec.toNat_ofNat, Nat.mod_add_mod]

/-- The fetcher's address of the tile index is that of tile `tiles` of the picture (R225). -/
theorem Ppu.tileMapAddr_eq {p : Ppu} {tiles : Nat} (fetcherX : p.fetcherX = BitVec.ofNat 5 tiles) :
    p.tileMapAddr = (if p.lcdc.getLsbD 3 then 0x9C00 else 0x9800) + (p.scx.toNat / 8 + tiles) % 32 +
      32 * ((p.ly + p.scy.toNat) % 256 / 8) := by
  rw [Ppu.tileMapAddr, p.backgroundRow_toNat, fetcherX, BitVec.toNat_ofNat, Nat.add_mod_mod]

theorem unsignedTile_toNat (tile : Byte) :
    (0x8000 + 16 * tile.setWidth 16 : Word).toNat = 0x8000 + 16 * tile.toNat := by
  bv_omega

/-- A tile index counted from 0x9000 is signed, and its tile is inside VRAM (R226). -/
theorem signedTile_toNat (tile : Byte) :
    ((0x9000 + 16 * tile.signExtend 16 : Word).toNat : Int) = 0x9000 + 16 * tile.toInt := by
  have width := BitVec.toNat_signExtend tile (v := 16)
  rw [BitVec.toNat_setWidth] at width
  rw [BitVec.toInt_eq_msb_cond]
  have sign := BitVec.msb_eq_decide tile
  by_cases negative : tile.msb = true
  · rw [if_pos negative] at width ⊢
    rw [negative] at sign
    bv_omega
  · rw [if_neg negative] at width ⊢
    rw [Bool.eq_false_iff.mpr negative] at sign
    bv_omega

/-- The fetcher's address of the tile row is the row of the picture, for either way of counting tiles (R226). -/
theorem Ppu.tileRowAddr_eq (p : Ppu) :
    (p.tileRowAddr : Int) = (if p.lcdc.getLsbD 4 then 0x8000 + 16 * (p.tileIndex.toNat : Int)
      else 0x9000 + 16 * p.tileIndex.toInt) + 2 * (((p.ly + p.scy.toNat) % 256 : Nat) % 8) := by
  rw [Ppu.tileRowAddr, p.backgroundRow_toNat, Int.natCast_add, Int.natCast_mul]
  congr 1
  split
  · exact congrArg Int.ofNat (unsignedTile_toNat p.tileIndex)
  · exact signedTile_toNat p.tileIndex

/-- Pixel `j` of the tile whose index the fetcher has latched is bit `7 - j` of the two planes it reads (R227). -/
theorem bgPixel_of_tile {mem : Memory} {p : Ppu} {tiles : Nat} (fetcherX : p.fetcherX = BitVec.ofNat 5 tiles)
    (tileIndex : p.tileIndex = mem.read p.tileMapAddr) {j : Nat} (hj : j < 8) :
    bgPixel mem p (8 * tiles + j) = BitVec.ofBool ((mem.read (p.tileRowAddr + 1)).getLsbD (7 - j)) ++
      BitVec.ofBool ((mem.read p.tileRowAddr).getLsbD (7 - j)) := by
  have column : (8 * tiles + j) / 8 = tiles := by omega
  have pixel : (8 * tiles + j) % 8 = j := by omega
  rw [Ppu.tileMapAddr_eq fetcherX] at tileIndex
  have row := p.tileRowAddr_eq
  unfold bgPixel
  dsimp only
  rw [column, pixel, ← tileIndex, ← row, Int.toNat_natCast]

theorem rowPixels_eq_bgPixels {mem : Memory} {p : Ppu} {tiles : Nat} (fetcherX : p.fetcherX = BitVec.ofNat 5 tiles)
    (tileIndex : p.tileIndex = mem.read p.tileMapAddr) :
    rowPixels (mem.read (p.tileRowAddr + 1)) (mem.read p.tileRowAddr) =
      (List.range' (8 * tiles) 8).map (bgPixel mem p) := by
  have bits (hi lo : Byte) : rowPixels hi lo = (List.range 8).map fun j =>
      BitVec.ofBool (hi.getLsbD (7 - j)) ++ BitVec.ofBool (lo.getLsbD (7 - j)) := rfl
  rw [bits, List.range'_eq_map_range, List.map_map]
  exact List.map_congr_left fun j hj => (bgPixel_of_tile fetcherX tileIndex (List.mem_range.mp hj)).symm

/-! ## What the pixel pipeline has done with a line -/

theorem Ppu.PictureInputsKept.trans {p q r : Ppu} (h : p.PictureInputsKept q) (k : q.PictureInputsKept r) :
    p.PictureInputsKept r :=
  ⟨k.ly.trans h.ly, k.lcdc.trans h.lcdc, k.scy.trans h.scy, k.scx.trans h.scx, k.bgp.trans h.bgp⟩

theorem Ppu.fetcherStep_pictureInputs (mem : Memory) (p : Ppu) : p.PictureInputsKept (p.fetcherStep mem) := by
  unfold Ppu.fetcherStep
  cases p.fstate with
  | getTileIndex | getDataLow | getDataHigh => exact ⟨rfl, rfl, rfl, rfl, rfl⟩
  | pushToFifo => dsimp only; split <;> exact ⟨rfl, rfl, rfl, rfl, rfl⟩

theorem Ppu.fifoPop_pictureInputs (p : Ppu) : p.PictureInputsKept p.fifoPop := by
  unfold Ppu.fifoPop
  split
  · exact ⟨rfl, rfl, rfl, rfl, rfl⟩
  · split <;> exact ⟨rfl, rfl, rfl, rfl, rfl⟩

/-- The fetcher is at tile `tiles` of the line, and its latches hold what the states it has been through read there
(R224 to R226). -/
structure Ppu.FetchesTile (mem : Memory) (tiles : Nat) (p : Ppu) : Prop where
  fetcherX : p.fetcherX = BitVec.ofNat 5 tiles
  tileIndex : p.fstate ≠ .getTileIndex → p.tileIndex = mem.read p.tileMapAddr
  tileLo : p.fstate = .getDataHigh ∨ p.fstate = .pushToFifo → p.tileLo = mem.read p.tileRowAddr
  tileHi : p.fstate = .pushToFifo → p.tileHi = mem.read (p.tileRowAddr + 1)

/-- The consumer has written the first `p.lx` pixels of the line of `start`, and nothing else (R228, R229). -/
structure Ppu.HasDrawn (mem : Memory) (start p : Ppu) : Prop where
  window : p.lx ≤ 160
  wf : p.fb.wf = true
  drawn : ∀ x, x < p.lx → p.fb.shade start.ly x = palette start.bgp (bgPixel mem start x)
  others : ∀ y x, y < 144 → x < 160 → y ≠ start.ly → p.fb.shade y x = start.fb.shade y x

/-- The pipeline of `p` is drawing the line of `start`: the fetcher has pushed `tiles` tiles, and the FIFO holds the
pixels between the last one drawn and the end of the last tile. -/
structure Ppu.DrawsLine (mem : Memory) (start : Ppu) (tiles : Nat) (p : Ppu) : Prop where
  inputs : start.PictureInputsKept p
  fetcher : p.FetchesTile mem tiles
  pushed : p.lx ≤ 8 * tiles
  fifo : p.fifo = (List.range' p.lx (8 * tiles - p.lx)).map (bgPixel mem start)
  picture : start.HasDrawn mem p

/-- An idle pipeline is at the beginning of its line. -/
theorem Ppu.DrawsLine.of_idle {p : Ppu} (mem : Memory) (idle : p.pipelineIdle) (wf : p.fb.wf = true) :
    p.DrawsLine mem 0 p := by
  obtain ⟨fstate, fetcherX, fifo, lx⟩ := idle
  exact {
    inputs := ⟨rfl, rfl, rfl, rfl, rfl⟩
    fetcher := {
      fetcherX := fetcherX
      tileIndex := fun h => absurd fstate h
      tileLo := by simp [fstate]
      tileHi := by simp [fstate] }
    pushed := lx.le
    fifo := by rw [fifo, lx]; rfl
    picture := {
      window := by omega
      wf := wf
      drawn := by simp [lx]
      others := fun _ _ _ _ _ => rfl } }

/-- The pipeline does not look at the dot counter, STAT and the STAT line. -/
theorem Ppu.DrawsLine.setStatus {mem : Memory} {start p : Ppu} {tiles : Nat} (h : start.DrawsLine mem tiles p)
    (dot : Nat) (stat : Byte) (line : Bool) :
    start.DrawsLine mem tiles { p with dot := dot, stat := stat, statLine := line } where
  inputs := { h.inputs with }
  fetcher := { h.fetcher with }
  pushed := h.pushed
  fifo := h.fifo
  picture := { h.picture with }

/-! ## One state of the fetcher -/

/-- The state after this one in the fetcher's cycle, when the FIFO has room (R224). -/
def FetchState.succ (f : FetchState) : FetchState :=
  match f with
  | .getTileIndex => .getDataLow
  | .getDataLow => .getDataHigh
  | .getDataHigh => .pushToFifo
  | .pushToFifo => .getTileIndex

theorem Ppu.fetcherStep_fstate {p : Ppu} (mem : Memory) (room : p.fstate = .pushToFifo → p.fifo.length ≤ 8) :
    (p.fetcherStep mem).fstate = p.fstate.succ := by
  unfold Ppu.fetcherStep
  cases f : p.fstate with
  | getTileIndex | getDataLow | getDataHigh => rfl
  | pushToFifo =>
    dsimp only
    rw [if_pos (room f)]
    rfl

/-- Only the consumer draws. -/
theorem Ppu.fetcherStep_drawn (mem : Memory) (p : Ppu) :
    (p.fetcherStep mem).lx = p.lx ∧ (p.fetcherStep mem).fb = p.fb := by
  unfold Ppu.fetcherStep
  cases p.fstate with
  | getTileIndex | getDataLow | getDataHigh => exact ⟨rfl, rfl⟩
  | pushToFifo => dsimp only; split <;> exact ⟨rfl, rfl⟩

theorem Ppu.fetcherStep_push {p : Ppu} (mem : Memory) (push : p.fstate = .pushToFifo) (room : p.fifo.length ≤ 8) :
    p.fetcherStep mem = { p with
      fifo := p.fifo ++ rowPixels p.tileHi p.tileLo, fetcherX := p.fetcherX + 1, fstate := .getTileIndex } := by
  simp only [Ppu.fetcherStep, push, if_pos room]

theorem Ppu.fetcherStep_fifo {p : Ppu} (mem : Memory) (read : p.fstate ≠ .pushToFifo) :
    (p.fetcherStep mem).fifo = p.fifo := by
  unfold Ppu.fetcherStep
  cases f : p.fstate with
  | getTileIndex | getDataLow | getDataHigh => rfl
  | pushToFifo => exact absurd f read

theorem Ppu.FetchesTile.read {mem : Memory} {tiles : Nat} {p : Ppu} (h : p.FetchesTile mem tiles)
    (read : p.fstate ≠ .pushToFifo) : (p.fetcherStep mem).FetchesTile mem tiles := by
  unfold Ppu.fetcherStep
  cases f : p.fstate with
  | getTileIndex =>
    exact { h with
      tileIndex := fun _ => rfl
      tileLo := by simp
      tileHi := by simp }
  | getDataLow =>
    exact { h with
      tileIndex := fun _ => h.tileIndex (by simp [f])
      tileLo := fun _ => rfl
      tileHi := by simp }
  | getDataHigh =>
    exact { h with
      tileIndex := fun _ => h.tileIndex (by simp [f])
      tileLo := fun _ => h.tileLo (.inl f)
      tileHi := fun _ => rfl }
  | pushToFifo => exact absurd f read

section
variable {mem : Memory} {start p : Ppu} {tiles : Nat}

/-- A state that reads VRAM for the tile. -/
theorem Ppu.DrawsLine.read (h : start.DrawsLine mem tiles p) (read : p.fstate ≠ .pushToFifo) :
    start.DrawsLine mem tiles (p.fetcherStep mem) := by
  obtain ⟨lx, fb⟩ := p.fetcherStep_drawn mem
  exact {
    inputs := h.inputs.trans (p.fetcherStep_pictureInputs mem)
    fetcher := h.fetcher.read read
    pushed := lx ▸ h.pushed
    fifo := by rw [Ppu.fetcherStep_fifo mem read, lx, h.fifo]
    picture := ⟨lx ▸ h.picture.window, fb ▸ h.picture.wf, lx ▸ fb ▸ h.picture.drawn, fb ▸ h.picture.others⟩ }

/-- A push adds the eight pixels of the tile that was read, and the fetcher goes on to the next tile (R227). -/
theorem Ppu.DrawsLine.push (h : start.DrawsLine mem tiles p) (push : p.fstate = .pushToFifo)
    (room : p.fifo.length ≤ 8) :
    start.DrawsLine mem (tiles + 1) (p.fetcherStep mem) := by
  have row : rowPixels p.tileHi p.tileLo = (List.range' (8 * tiles) 8).map (bgPixel mem start) := by
    rw [h.fetcher.tileHi push, h.fetcher.tileLo (.inr push), ← bgPixel_congr h.inputs]
    exact rowPixels_eq_bgPixels h.fetcher.fetcherX (h.fetcher.tileIndex (by simp [push]))
  have joined : List.range' p.lx (8 * tiles - p.lx) ++ List.range' (8 * tiles) 8 =
      List.range' p.lx (8 * (tiles + 1) - p.lx) := by
    have pushed := h.pushed
    rw [show 8 * (tiles + 1) - p.lx = 8 * tiles - p.lx + 8 by omega, ← List.range'_append_1]
    congr 2
    omega
  rw [Ppu.fetcherStep_push mem push room]
  exact {
    inputs := { h.inputs with }
    fetcher := {
      fetcherX := by rw [BitVec.ofNat_add]; exact congrArg (· + 1) h.fetcher.fetcherX
      tileIndex := by simp
      tileLo := by simp
      tileHi := by simp }
    pushed := h.pushed.trans (by omega)
    fifo := by
      dsimp only
      rw [h.fifo, row, ← List.map_append, joined]
    picture := { h.picture with } }

/-- One state of the fetcher's cycle (R224 to R227). -/
theorem Ppu.DrawsLine.fetcherStep (h : start.DrawsLine mem tiles p)
    (room : p.fstate = .pushToFifo → p.fifo.length ≤ 8) :
    start.DrawsLine mem (if p.fstate = .pushToFifo then tiles + 1 else tiles) (p.fetcherStep mem) := by
  split
  next push => exact h.push push (room push)
  next read => exact h.read read

/-! ## One pixel of the consumer -/

/-- The next pixel of the line joins those that are drawn (R228, R229). -/
theorem Ppu.HasDrawn.next (h : start.HasDrawn mem p) (inputs : start.PictureInputsKept p) (visible : start.ly < 144)
    (inside : p.lx < 160) (rest : List (BitVec 2)) :
    start.HasDrawn mem { p with
      fifo := rest, fb := p.fb.setShade p.ly p.lx (palette p.bgp (bgPixel mem start p.lx)), lx := p.lx + 1 } where
  window := inside
  wf := FrameBuffer.wf_setShade h.wf _ (inputs.ly ▸ visible) inside
  drawn x hx := by
    rw [← inputs.ly]
    by_cases last : x = p.lx
    · rw [last, FrameBuffer.shade_setShade_same h.wf, inputs.bgp]
    · have before : x < p.lx := Nat.lt_of_le_of_ne (Nat.le_of_lt_succ hx) last
      rw [FrameBuffer.shade_setShade_other h.wf _ inside (before.trans inside) (fun e => last e.2), inputs.ly]
      exact h.drawn x before
  others y x hy hx hne := by
    rw [FrameBuffer.shade_setShade_other h.wf _ inside hx (fun e => hne (e.1.trans inputs.ly))]
    exact h.others y x hy hx hne

/-- The consumer writes the next pixel of the line, if the FIFO holds one and the line has room (R228, R229). -/
theorem Ppu.DrawsLine.fifoPop (h : start.DrawsLine mem tiles p) (visible : start.ly < 144) :
    start.DrawsLine mem tiles p.fifoPop ∧ p.fifoPop.lx = min 160 (min (8 * tiles) (p.lx + 1)) := by
  have pushed := h.pushed
  have window := h.picture.window
  have length : p.fifo.length = 8 * tiles - p.lx := by rw [h.fifo, List.length_map, List.length_range']
  unfold Ppu.fifoPop
  split
  next empty =>
    rw [empty, List.length_nil] at length
    exact ⟨h, by omega⟩
  next px rest held =>
    rw [held, List.length_cons] at length
    split
    next inside =>
      have front : px = bgPixel mem start p.lx ∧
          rest = (List.range' (p.lx + 1) (8 * tiles - (p.lx + 1))).map (bgPixel mem start) := by
        have fifo := h.fifo
        rw [held, show 8 * tiles - p.lx = 8 * tiles - (p.lx + 1) + 1 by omega, List.range'_succ, List.map_cons] at fifo
        exact List.cons.inj fifo
      rw [front.1]
      exact ⟨{
        inputs := { h.inputs with }
        fetcher := { h.fetcher with }
        pushed := by dsimp only; omega
        fifo := front.2
        picture := h.picture.next h.inputs visible inside rest }, by dsimp only; omega⟩
    next full => exact ⟨h, by omega⟩

end

/-! ## The Draw dots of a line -/

/-- The fetcher's state once it has run `k` times from the beginning of the line (R224). -/
def FetchState.after (k : Nat) : FetchState :=
  if k % 4 = 0 then .getTileIndex
  else if k % 4 = 1 then .getDataLow
  else if k % 4 = 2 then .getDataHigh
  else .pushToFifo

theorem FetchState.after_succ (k : Nat) : FetchState.after (k + 1) = (FetchState.after k).succ := by
  unfold FetchState.after
  rw [Nat.add_mod]
  have lt : k % 4 < 4 := Nat.mod_lt _ (by omega)
  generalize k % 4 = r at lt
  interval_cases r <;> rfl

theorem FetchState.after_eq_push (k : Nat) : FetchState.after k = .pushToFifo ↔ k % 4 = 3 := by
  unfold FetchState.after
  have lt : k % 4 < 4 := Nat.mod_lt _ (by omega)
  generalize k % 4 = r at lt
  interval_cases r <;> decide

/-- The pipeline of `p` is `n` dots of Draw after `start`. The fetcher has run on every second of them; the FIFO is
empty until its first push, on the fetcher's fourth run, and from that dot on each dot draws one pixel (R224, R228). -/
structure Ppu.AfterDots (phase : Fin 2) (mem : Memory) (start : Ppu) (n : Nat) (p : Ppu) : Prop where
  fstate : p.fstate = FetchState.after ((n + 1 - phase.val) / 2)
  line : start.DrawsLine mem ((n + 1 - phase.val) / 2 / 4) p
  lx : p.lx = min 160 (n - (6 + phase.val))

/-- The pipeline between the fetcher and the consumer of dot `n`, counted from the first dot of Draw: the fetcher never
finds the FIFO without room, so it never waits. -/
theorem Ppu.AfterDots.fetched {phase : Fin 2} {mem : Memory} {start p : Ppu} {n : Nat}
    (h : start.AfterDots phase mem n p) (more : n < 172) :
    let q := if n % 2 = phase.val then p.fetcherStep mem else p
    q.fstate = FetchState.after ((n + 1 + 1 - phase.val) / 2) ∧
      start.DrawsLine mem ((n + 1 + 1 - phase.val) / 2 / 4) q ∧ q.lx = p.lx := by
  have phase_lt := phase.isLt
  dsimp only
  split
  next fetch =>
    have turn : (n + 1 + 1 - phase.val) / 2 = (n + 1 - phase.val) / 2 + 1 := by omega
    have push : p.fstate = .pushToFifo ↔ (n + 1 - phase.val) / 2 % 4 = 3 := by rw [h.fstate, FetchState.after_eq_push]
    have room : p.fstate = .pushToFifo → p.fifo.length ≤ 8 := fun f => by
      have fourth := push.mp f
      rw [h.line.fifo, List.length_map, List.length_range', h.lx]
      omega
    have tiles : (if p.fstate = .pushToFifo then (n + 1 - phase.val) / 2 / 4 + 1 else (n + 1 - phase.val) / 2 / 4) =
        ((n + 1 - phase.val) / 2 + 1) / 4 := by
      rw [if_congr push rfl rfl]
      split <;> omega
    rw [turn, Ppu.fetcherStep_fstate mem room, h.fstate, FetchState.after_succ, ← tiles]
    exact ⟨rfl, h.line.fetcherStep room, (p.fetcherStep_drawn mem).1⟩
  next wait =>
    have same : (n + 1 + 1 - phase.val) / 2 = (n + 1 - phase.val) / 2 := by omega
    rw [same]
    exact ⟨h.fstate, h.line, rfl⟩

theorem Ppu.fifoPop_fstate (p : Ppu) : p.fifoPop.fstate = p.fstate := by
  unfold Ppu.fifoPop
  split
  · rfl
  · split <;> rfl

/-- A dot of Draw is the fetcher's turn, on every second dot, and then the consumer's. -/
theorem Ppu.drawDot_eq (phase : Fin 2) (mem : Memory) (p : Ppu) :
    p.drawDot phase mem = (if (p.dot - 80) % 2 = phase.val then p.fetcherStep mem else p).fifoPop := by
  unfold Ppu.drawDot
  split <;> rfl

/-- The fetcher's turn and then the consumer's, on the next dot. -/
theorem Ppu.AfterDots.drawDot {phase : Fin 2} {mem : Memory} {start p : Ppu} {n : Nat}
    (h : start.AfterDots phase mem n p) (more : n < 172) (visible : start.ly < 144) (dot : p.dot = 80 + n) :
    start.AfterDots phase mem (n + 1) (p.drawDot phase mem) := by
  obtain ⟨fstate, line, lx⟩ := h.fetched more
  obtain ⟨popped, popped_lx⟩ := line.fifoPop visible
  have phase_lt := phase.isLt
  rw [Ppu.drawDot_eq, dot, Nat.add_sub_cancel_left]
  exact {
    fstate := by rw [Ppu.fifoPop_fstate, fstate]
    line := popped
    lx := by rw [popped_lx, lx, h.lx]; omega }

theorem Ppu.AfterDots.setStatus {phase : Fin 2} {mem : Memory} {start p : Ppu} {n : Nat}
    (h : start.AfterDots phase mem n p) (dot : Nat) (stat : Byte) (line : Bool) :
    start.AfterDots phase mem n { p with dot := dot, stat := stat, statLine := line } :=
  { h with line := h.line.setStatus _ _ _ }

/-- A dot of Draw of a line with the LCD on (R219). -/
theorem Ppu.tick_draw {st : Settings} {mem : Memory} {p : Ppu} (lcdOn : p.lcdOn = true) (visible : p.ly < 144)
    (low : 79 ≤ p.dot) (high : p.dot < 251) :
    ∃ stat line, (p.tick st mem).1 =
      { { p with dot := p.dot + 1 }.drawDot st.fetchPhase mem with stat := stat, statLine := line } := by
  have runs : ¬ (st.lcdOff = .frozenAtLine0 ∧ p.lcdOn = false) := by simp [lcdOn]
  have advanced : p.advance = { p with dot := p.dot + 1 } := if_neg (by omega)
  have on : ({ p with dot := p.dot + 1 } : Ppu).lcdOn = true := lcdOn
  have mode : ppuMode p.ly (p.dot + 1) true = .draw := by
    unfold ppuMode
    rw [if_neg (by omega), if_neg (by omega), if_pos (by omega), if_pos rfl]
  have act : Ppu.actAt st.fetchPhase mem .draw { p with dot := p.dot + 1 } =
      { p with dot := p.dot + 1 }.drawDot st.fetchPhase mem := by
    unfold Ppu.actAt
    rw [if_neg (by dsimp only; omega), if_pos rfl]
  rw [Ppu.tick_running runs, advanced, on, mode, act]
  exact ⟨_, _, rfl⟩

theorem Ppu.drawDot_statInputs (phase : Fin 2) (mem : Memory) (p : Ppu) : p.StatInputsKept (p.drawDot phase mem) := by
  rw [Ppu.drawDot_eq]
  refine Ppu.StatInputsKept.trans ?_ (Ppu.fifoPop_statInputs _)
  split
  · exact p.fetcherStep_statInputs mem
  · exact ⟨rfl, rfl, rfl, rfl⟩

@[simp] theorem ticks_ppuTick_mem (n : Nat) (s : State) : (ticks ppuTick n s).mem = s.mem := by
  obtain ⟨_, _, _, e⟩ := ppuTicks_eq n s
  rw [e]

@[simp] theorem ticks_ppuTick_settings (n : Nat) (s : State) : (ticks ppuTick n s).settings = s.settings := by
  obtain ⟨_, _, _, e⟩ := ppuTicks_eq n s
  rw [e]

theorem Ppu.AfterDots.zero {p : Ppu} (phase : Fin 2) (mem : Memory) (idle : p.pipelineIdle) (wf : p.fb.wf = true) :
    p.AfterDots phase mem 0 p := by
  have line := Ppu.DrawsLine.of_idle mem idle wf
  obtain ⟨fstate, -, -, lx⟩ := idle
  have none_fetched : (0 + 1 - phase.val) / 2 = 0 := by omega
  exact {
    fstate := by rw [none_fetched, fstate]; rfl
    line := by rw [none_fetched]; exact line
    lx := by rw [lx]; omega }

/-- Up to the last dot of Draw the pipeline goes on dot by dot. -/
theorem ticks_draw {s : State} (lcdOn : s.ppu.lcdOn = true) (visible : s.ppu.ly < 144) (dot : s.ppu.dot = 79)
    (idle : s.ppu.pipelineIdle) (wf : s.ppu.fb.wf = true) {n : Nat} (hn : n ≤ 172) :
    (ticks ppuTick n s).ppu.dot = 79 + n ∧
      s.ppu.AfterDots s.settings.fetchPhase s.mem n (ticks ppuTick n s).ppu := by
  induction n with
  | zero => exact ⟨dot, .zero _ _ idle wf⟩
  | succ n ih =>
    obtain ⟨position, drawing⟩ := ih (by omega)
    rw [ticks_succ_last, ppuTick_ppu, ticks_ppuTick_mem, ticks_ppuTick_settings]
    generalize (ticks ppuTick n s).ppu = p at position drawing ⊢
    have inputs := drawing.line.inputs
    obtain ⟨stat, line, tick⟩ := Ppu.tick_draw (st := s.settings) (mem := s.mem) (p := p)
      (by rw [Ppu.lcdOn, inputs.lcdc]; exact lcdOn) (inputs.ly ▸ visible) (by omega) (by omega)
    have next : p.dot + 1 = 80 + n := by omega
    rw [tick]
    constructor
    · have moved := Ppu.drawDot_statInputs s.settings.fetchPhase s.mem { p with dot := p.dot + 1 }
      exact moved.dot.trans (congrArg (· + 1) position)
    · exact ((drawing.setStatus _ p.stat p.statLine).drawDot hn visible next).setStatus _ _ _

/-- Settles O59: after 172 dots of Draw (`ticks_draw`) the consumer has drawn all 160 pixels of the line. -/
theorem drawnLineIsTheBackground : Obligations.DrawnLineIsTheBackground := by
  unfold Obligations.DrawnLineIsTheBackground
  intro s lcdOn visible dot idle wf t
  obtain ⟨position, drawing⟩ := ticks_draw lcdOn visible dot idle wf (le_refl 172)
  have picture := drawing.line.picture
  have full : t.ppu.lx = 160 := by
    rw [show t.ppu.lx = _ from drawing.lx]
    omega
  exact ⟨position, drawing.line.inputs.ly, fun x hx => picture.drawn x (full ▸ hx), picture.others⟩

end Sys2Proof.Machine
end

section
/-! PROOFS. The PPU's position counts dots, and HBlank entry and the frozen LCD reset the pixel pipeline (R219, R220,
R222, R223). -/

namespace Sys2Proof.Machine

/-! ## The position -/

/-- The next position is one dot on, and a frame is 70224 dots (R219). -/
theorem Ppu.advance_position {p : Ppu} (dot : p.dot < 456) (ly : p.ly < 154) :
    456 * p.advance.ly + p.advance.dot = (456 * p.ly + p.dot + 1) % 70224 := by
  unfold Ppu.advance
  split
  · dsimp only
    omega
  · dsimp only
    omega

theorem Ppu.actAt_pictureInputs (phase : Fin 2) (mem : Memory) (m : PpuMode) (p : Ppu) :
    p.PictureInputsKept (p.actAt phase mem m) := by
  unfold Ppu.actAt
  split
  · exact ⟨rfl, rfl, rfl, rfl, rfl⟩
  split
  · rw [Ppu.drawDot_eq]
    refine Ppu.PictureInputsKept.trans ?_ (Ppu.fifoPop_pictureInputs _)
    split
    · exact p.fetcherStep_pictureInputs mem
    · exact ⟨rfl, rfl, rfl, rfl, rfl⟩
  · exact ⟨rfl, rfl, rfl, rfl, rfl⟩

/-- No tick writes LCDC, so a PPU that runs goes on running. -/
theorem ppuTick_runs {s : State} (runs : s.ppuRuns) : (ppuTick s).ppuRuns := by
  have lcdc : (ppuTick s).ppu.lcdc = s.ppu.lcdc := by
    obtain ⟨dot, ly, advanced⟩ := s.ppu.advance_eq
    rw [ppuTick_ppu, Ppu.tick_running runs, advanced]
    exact (Ppu.actAt_pictureInputs _ _ _ _).lcdc
  unfold State.ppuRuns Ppu.lcdOn at *
  rwa [lcdc]

/-- Settles O56: each tick goes one dot on (`Ppu.advance_position`) and keeps the PPU running. -/
theorem ppuPositionCountsDots : Obligations.PpuPositionCountsDots := by
  unfold Obligations.PpuPositionCountsDots
  intro s n runs dot ly
  induction n generalizing s with
  | zero =>
    have inFrame : 456 * s.ppu.ly + s.ppu.dot < 70224 := by omega
    exact ⟨dot, ly, (Nat.mod_eq_of_lt inFrame).symm⟩
  | succ n ih =>
    obtain ⟨hly, hdot, -⟩ := Ppu.tick_status (mem := s.mem) runs
    have position := Ppu.advance_position dot ly
    obtain ⟨dot', ly', counted⟩ := ih (ppuTick s) (ppuTick_runs runs) (hdot ▸ Ppu.advance_dot_lt dot)
      (hly ▸ Ppu.advance_ly_lt ly)
    refine ⟨dot', ly', counted.trans ?_⟩
    rw [ppuTick_ppu, hly, hdot, position]
    omega

/-! ## HBlank entry and the frozen LCD -/

/-- The tick that reaches dot 252 of a visible line is HBlank entry (R222). -/
theorem Ppu.tick_hblankEntry {st : Settings} {mem : Memory} {p : Ppu}
    (runs : ¬ (st.lcdOff = .frozenAtLine0 ∧ p.lcdOn = false)) (dot : p.dot = 251) (visible : p.ly < 144) :
    ∃ stat line, (p.tick st mem).1 = { { p with dot := 252 }.hblankEntry with stat := stat, statLine := line } := by
  have advanced : p.advance = { p with dot := 252 } := by
    unfold Ppu.advance
    rw [if_neg (by omega), dot]
  have act (m : PpuMode) : Ppu.actAt st.fetchPhase mem m { p with dot := 252 } = { p with dot := 252 }.hblankEntry :=
    if_pos ⟨visible, rfl⟩
  rw [Ppu.tick_running runs, advanced, act]
  exact ⟨_, _, rfl⟩

theorem Ppu.tick_frozen {st : Settings} {p : Ppu} (frozen : st.lcdOff = .frozenAtLine0 ∧ p.lcdOn = false)
    (mem : Memory) : p.tick st mem = (p.frozenTick, ⟨false, false, false⟩) :=
  if_pos frozen

theorem ppuTick_frozen {s : State} (frozen : ¬ s.ppuRuns) :
    ppuTick s = { s with ppu := s.ppu.frozenTick } := by
  unfold ppuTick
  rw [Ppu.tick_frozen (not_not.mp frozen)]
  simp

/-- Settles O58: the tick that is HBlank entry (`Ppu.tick_hblankEntry`), and the frozen tick. -/
theorem pipelineResets : Obligations.PipelineResets := by
  unfold Obligations.PipelineResets
  constructor
  · intro s runs dot visible
    obtain ⟨stat, line, tick⟩ := Ppu.tick_hblankEntry (mem := s.mem) runs dot visible
    rw [ppuTick_ppu, tick]
    exact ⟨⟨rfl, rfl, rfl, rfl⟩, rfl, rfl, rfl, rfl, rfl⟩
  · intro s frozen
    rw [ppuTick_frozen frozen]
    have stat := ({ s.ppu with dot := 0, ly := 0 } : Ppu).hblankEntry.setStatLow_stat (decide (s.ppu.lyc = 0)) 0b00
    exact ⟨⟨rfl, rfl, rfl, rfl⟩, rfl, rfl, rfl, rfl, rfl, stat⟩

end Sys2Proof.Machine
end

section
/-! PROOFS. The timer counts the falling edges of the bit of the divider that TAC selects (R216, R217). -/

namespace Sys2Proof.Machine

/-! ## The selected bit of the divider -/

/-- The period of the selected bit in cycles of the divider (R216). -/
def timerPeriod (tac : Byte) : Nat :=
  match (tac.extractLsb' 0 2).toNat with | 0 => 1024 | 1 => 16 | 2 => 64 | _ => 256

theorem timerPeriod_eq (tac : Byte) : timerPeriod tac = 2 ^ (timerBit tac + 1) := by
  unfold timerPeriod timerBit
  generalize tac.extractLsb' 0 2 = field
  revert field
  decide

theorem timerBit_lt (tac : Byte) : timerBit tac < 16 := by
  rw [timerBit_eq]
  split <;> decide

/-- Bit `b` of a counter falls when the counter reaches a multiple of `2^(b+1)`. -/
theorem testBit_falls_iff (x b : Nat) : (x.testBit b = true ∧ (x + 1).testBit b = false) ↔ 2 ^ (b + 1) ∣ x + 1 := by
  simp only [Nat.testBit_eq_decide_div_mod_eq, decide_eq_true_eq, decide_eq_false_iff_not, Nat.succ_div, pow_succ]
  have pos : 0 < 2 ^ b := Nat.two_pow_pos b
  by_cases boundary : 2 ^ b ∣ x + 1
  · rw [if_pos boundary]
    have half : (x + 1) / 2 ^ b = x / 2 ^ b + 1 := by rw [Nat.succ_div, if_pos boundary]
    rw [← Nat.dvd_div_iff_mul_dvd boundary, half]
    omega
  · rw [if_neg boundary]
    exact iff_of_false (by omega) fun h => boundary (dvd_of_mul_right_dvd h)

/-- The edge detector's input when the divider has counted to `x`, at whatever multiple of 2^16 it wrapped. -/
theorem timerAnd_ofNat (x : Nat) (tac : Byte) :
    timerAnd (BitVec.ofNat 16 x) tac = (x.testBit (timerBit tac) && tac.getLsbD 2) := by
  rw [timerAnd, BitVec.getLsbD_ofNat, decide_eq_true (timerBit_lt tac), Bool.true_and]

/-- The input falls, with the timer on, at the multiples of the period (R216). -/
theorem timerAnd_falls_iff (x : Nat) (tac : Byte) :
    (timerAnd (BitVec.ofNat 16 x) tac = true ∧ timerAnd (BitVec.ofNat 16 (x + 1)) tac = false) ↔
      tac.getLsbD 2 = true ∧ timerPeriod tac ∣ x + 1 := by
  rw [timerAnd_ofNat, timerAnd_ofNat, timerPeriod_eq, ← testBit_falls_iff]
  cases tac.getLsbD 2 <;> simp

/-! ## Counting -/

/-- A tick on which the input does not fall leaves TIMA and IF alone (R216). -/
theorem timerTick_no_fall {s : State}
    (h : ¬ (s.timer.lastAnd = true ∧ timerAnd (s.timer.div + 1) s.timer.tac = false)) :
    (timerTick s).timer.tima = s.timer.tima ∧ (timerTick s).irq = s.irq := by
  have edge : (s.timer.lastAnd && !timerAnd (s.timer.div + 1) s.timer.tac) = false := by simpa using h
  simp only [timerTick, Timer.tick, edge, Bool.false_eq_true, if_false, and_self]

/-- The number of times the input falls in `n` cycles from a divider of `x`. -/
def timerFalls (tac : Byte) (x n : Nat) : Nat :=
  if tac.getLsbD 2 then (x + n) / timerPeriod tac - x / timerPeriod tac else 0

theorem timerFalls_zero (tac : Byte) (x : Nat) : timerFalls tac x 0 = 0 := by simp [timerFalls]

theorem timerFalls_succ (tac : Byte) (x n : Nat) : timerFalls tac x (n + 1) = timerFalls tac x n +
    if tac.getLsbD 2 = true ∧ timerPeriod tac ∣ x + n + 1 then 1 else 0 := by
  unfold timerFalls
  cases tac.getLsbD 2 with
  | false => simp
  | true =>
    have le : x / timerPeriod tac ≤ (x + n) / timerPeriod tac := Nat.div_le_div_right (Nat.le_add_right x n)
    simp only [if_true, true_and, ← Nat.add_assoc, Nat.succ_div]
    omega

/-- What `n` cycles of the timer from `s` leave in `t`, as far as the first overflow of TIMA (R216, R217). -/
structure State.TimerCounted (s : State) (n : Nat) (t : State) : Prop where
  div : t.timer.div = BitVec.ofNat 16 (s.timer.div.toNat + n)
  lastAnd : t.timer.lastAnd = timerAnd t.timer.div t.timer.tac
  tac : t.timer.tac = s.timer.tac
  tma : t.timer.tma = s.timer.tma
  counted : s.timer.tima.toNat + timerFalls s.timer.tac s.timer.div.toNat n ≤ 0xFF →
    t.timer.tima.toNat = s.timer.tima.toNat + timerFalls s.timer.tac s.timer.div.toNat n ∧ t.irq = s.irq
  reloaded : s.timer.tima.toNat + timerFalls s.timer.tac s.timer.div.toNat n = 0x100 →
    t.timer.tima = s.timer.tma ∧ t.irq = { s.irq with ifr := s.irq.ifr ||| 0x04 }

section
variable {s t : State} {n : Nat}

theorem State.TimerCounted.zero (inStep : s.timer.lastAnd = timerAnd s.timer.div s.timer.tac) : s.TimerCounted 0 s where
  div := by simp
  lastAnd := inStep
  tac := rfl
  tma := rfl
  counted _ := by simp [timerFalls_zero]
  reloaded h := by
    rw [timerFalls_zero] at h
    exact absurd h (by omega)

theorem State.TimerCounted.div_succ (h : s.TimerCounted n t) :
    t.timer.div + 1 = BitVec.ofNat 16 (s.timer.div.toNat + n + 1) := by
  rw [h.div, show (1 : Word) = BitVec.ofNat 16 1 from rfl, ← BitVec.ofNat_add]

/-- The next cycle counts exactly if the edge detector's input falls. -/
theorem State.TimerCounted.falls_succ (h : s.TimerCounted n t) :
    timerFalls s.timer.tac s.timer.div.toNat (n + 1) = timerFalls s.timer.tac s.timer.div.toNat n +
      if t.timer.lastAnd = true ∧ timerAnd (t.timer.div + 1) t.timer.tac = false then 1 else 0 := by
  rw [timerFalls_succ, h.lastAnd, h.div_succ, h.div, h.tac, if_congr (timerAnd_falls_iff _ _) rfl rfl]

theorem State.TimerCounted.tick (h : s.TimerCounted n t) : s.TimerCounted (n + 1) (timerTick t) := by
  have div : (timerTick t).timer.div = BitVec.ofNat 16 (s.timer.div.toNat + (n + 1)) := by
    rw [timerTick_timer, Timer.tick_div, h.div_succ, Nat.add_assoc]
  have lastAnd : (timerTick t).timer.lastAnd = timerAnd (timerTick t).timer.div (timerTick t).timer.tac := by
    rw [timerTick_timer, Timer.tick_lastAnd, Timer.tick_div, Timer.tick_tac]
  have tac : (timerTick t).timer.tac = s.timer.tac := by rw [timerTick_timer, Timer.tick_tac, h.tac]
  have tma : (timerTick t).timer.tma = s.timer.tma := by rw [timerTick_timer, Timer.tick_tma, h.tma]
  by_cases fall : t.timer.lastAnd = true ∧ timerAnd (t.timer.div + 1) t.timer.tac = false
  · have falls := h.falls_succ
    rw [if_pos fall] at falls
    have counted := h.counted
    refine ⟨div, lastAnd, tac, tma, fun below => ?_, fun full => ?_⟩
    · obtain ⟨tima, irq⟩ := counted (by omega)
      have room : t.timer.tima ≠ 0xFF := by bv_omega
      rw [timerTick_fall fall.1 fall.2, if_neg room, if_neg room]
      exact ⟨by bv_omega, irq⟩
    · obtain ⟨tima, irq⟩ := counted (by omega)
      have last : t.timer.tima = 0xFF := by bv_omega
      rw [timerTick_fall fall.1 fall.2, if_pos last, if_pos last, h.tma, irq]
      exact ⟨rfl, rfl⟩
  · have falls := h.falls_succ
    rw [if_neg fall, Nat.add_zero] at falls
    obtain ⟨tima, irq⟩ := timerTick_no_fall fall
    refine ⟨div, lastAnd, tac, tma, ?_, ?_⟩ <;> rw [falls, tima, irq]
    · exact h.counted
    · exact h.reloaded

theorem State.TimerCounted.ticks (inStep : s.timer.lastAnd = timerAnd s.timer.div s.timer.tac) (n : Nat) :
    s.TimerCounted n (ticks timerTick n s) := by
  induction n with
  | zero => exact .zero inStep
  | succ n ih =>
    rw [ticks_succ_last]
    exact ih.tick

end

/-- Settles O55: each cycle counts the fall it brings (`State.TimerCounted.tick`). -/
theorem timerCountsPeriods : Obligations.TimerCountsPeriods := by
  unfold Obligations.TimerCountsPeriods
  intro s n inStep period falls t
  have ticked : s.TimerCounted n t := .ticks inStep n
  refine ⟨?_, ticked.lastAnd, ticked.tac, ticked.tma, ticked.counted, ticked.reloaded⟩
  rw [ticked.div, BitVec.ofNat_add, BitVec.ofNat_toNat, BitVec.setWidth_eq]

end Sys2Proof.Machine
end

section
/-! PROOFS. The joypad register, the host's input, and the serial hook (R232 to R234). -/

namespace Sys2Proof.Machine

/-! ## The joypad -/

/-- A group that is not selected reads as 1 (R232). -/
def Joypad.group (j : Joypad) (g : Nat) (lines : BitVec 4) : BitVec 4 := if j.select.getLsbD g then 0xF else lines

theorem Joypad.group_bit (j : Joypad) (g : Nat) (lines : BitVec 4) {i : Nat} (hi : i < 4) :
    (j.group g lines).getLsbD i = (j.select.getLsbD g || lines.getLsbD i) := by
  have ones : (0xF : BitVec 4).getLsbD i = true := by interval_cases i <;> rfl
  unfold Joypad.group
  cases j.select.getLsbD g with
  | false => rfl
  | true => exact ones

/-- P1 bit by bit (R232). -/
theorem Joypad.p1_bit (j : Joypad) (i : Nat) : j.p1.getLsbD i =
    if i < 4 then (j.group 0 j.dirs).getLsbD i && (j.group 1 j.buttons).getLsbD i
    else if i - 4 < 2 then j.select.getLsbD (i - 4) else (0b11#2).getLsbD (i - 4 - 2) := by
  change ((0b11#2 ++ j.select) ++ (j.group 0 j.dirs &&& j.group 1 j.buttons)).getLsbD i = _
  rw [BitVec.getLsbD_append, BitVec.getLsbD_append, BitVec.getLsbD_and]

theorem Joypad.p1_fields (j : Joypad) : j.p1.extractLsb' 6 2 = 0b11 ∧ j.p1.extractLsb' 4 2 = j.select := by
  constructor
  · ext i hi
    rw [BitVec.getElem_extractLsb', Joypad.p1_bit, if_neg (by omega), if_neg (by omega),
      BitVec.getLsbD_eq_getElem (by omega)]
    congr 1
    omega
  · ext i hi
    rw [BitVec.getElem_extractLsb', Joypad.p1_bit, if_neg (by omega), if_pos (by omega), Nat.add_sub_cancel_left,
      BitVec.getLsbD_eq_getElem hi]

theorem Joypad.p1_low (j : Joypad) {i : Nat} (hi : i < 4) : j.p1.getLsbD i =
    ((j.select.getLsbD 0 || j.dirs.getLsbD i) && (j.select.getLsbD 1 || j.buttons.getLsbD i)) := by
  rw [Joypad.p1_bit, if_pos hi, Joypad.group_bit j 0 _ hi, Joypad.group_bit j 1 _ hi]

/-- Settles O22: P1 is read bit by bit (`Joypad.p1_fields`, `Joypad.p1_low`), and input is the two cases of a change. -/
theorem joypadRegisterAndInput : Obligations.JoypadRegisterAndInput := by
  unfold Obligations.JoypadRegisterAndInput
  refine ⟨fun s => ?_, fun v s => rfl, fun d b s => ?_⟩
  · obtain ⟨ones, select⟩ := s.joypad.p1_fields
    exact ⟨s.joypad.p1, rfl, ones, select, fun i => s.joypad.p1_low⟩
  · unfold State.setInput
    split <;> rfl

/-! ## The serial hook -/

theorem Serial.writeSc_eq (x : Serial) (v : Byte) :
    x.writeSc v = { x with sc := v, out := if v = 0x81 then x.out ++ [x.sb] else x.out } := by
  unfold Serial.writeSc
  split <;> rfl

/-- Settles O23: SC's arm of the I/O map is the hook (`Serial.writeSc_eq`), and SB's stores the byte alone. -/
theorem serialHookSendsSb : Obligations.SerialHookSendsSb := by
  unfold Obligations.SerialHookSendsSb
  intro v s
  rw [← Serial.writeSc_eq]
  exact ⟨rfl, rfl, rfl, rfl⟩

end Sys2Proof.Machine
end

section
/-! PROOFS. The CPU control instructions, and the two steps that `EI` and `DI` take (R196 to R200, R206). -/

namespace Sys2Proof.Machine

/-- Settles O53: each of the five is one change of the CPU registers in 4 cycles. -/
theorem cpuControlInstructions : Obligations.CpuControlInstructions := by
  unfold Obligations.CpuControlInstructions
  exact ⟨rfl, rfl, rfl, rfl, rfl, rfl, fun s => ⟨rfl, rfl, rfl, rfl, rfl⟩⟩

/-! ## The countdowns of EI and DI -/

theorem imeCommit_control (s : State) :
    (imeCommit s).cpu.ime = (if s.cpu.diPending = 1 then false else if s.cpu.eiPending = 1 then true else s.cpu.ime) ∧
      (imeCommit s).cpu.eiPending = (if s.cpu.eiPending = 2 then 1 else 0) ∧
      (imeCommit s).cpu.diPending = (if s.cpu.diPending = 2 then 1 else 0) := by
  rw [imeCommit_cpu, Cpu.commitEi_commitDi_eq]
  exact ⟨rfl, rfl, rfl⟩

/-- An instruction keeps the countdown of `DI` or starts it, so none makes it stand at 1. -/
theorem exec_diPending_ne_one {i : Instr} {s m : State} (run : exec i s = .next m) (idle : s.cpu.diPending = 0) :
    m.cpu.diPending ≠ 1 := by
  by_cases start : i = .di
  · subst start
    obtain rfl : s.after { s.cpu with diPending := 2 } 4 = m := Host.Outcome.next.inj run
    exact (by decide : (2 : Fin 3) ≠ 1)
  · obtain ⟨-, -, kept, -, -⟩ := exec_controlWrittenBy i s m run
    rw [kept start, idle]
    decide

theorem imeCommit_after_ei {s t : State} (ei : exec .ei s = .next t) (idle : s.cpu.diPending = 0) :
    (imeCommit t).cpu.ime = s.cpu.ime ∧ (imeCommit t).cpu.eiPending = 1 ∧ (imeCommit t).cpu.diPending = 0 := by
  obtain rfl : s.after { s.cpu with eiPending := 2 } 4 = t := Host.Outcome.next.inj ei
  obtain ⟨ime, eiPending, diPending⟩ := imeCommit_control (s.after { s.cpu with eiPending := 2 } 4)
  rw [ime, eiPending, diPending, show (s.after { s.cpu with eiPending := 2 } 4).cpu.diPending = 0 from idle]
  exact ⟨rfl, rfl, rfl⟩

theorem imeCommit_after_di {s t : State} (di : exec .di s = .next t) (idle : s.cpu.eiPending = 0) :
    (imeCommit t).cpu.ime = s.cpu.ime ∧ (imeCommit t).cpu.diPending = 1 := by
  obtain rfl : s.after { s.cpu with diPending := 2 } 4 = t := Host.Outcome.next.inj di
  obtain ⟨ime, -, diPending⟩ := imeCommit_control (s.after { s.cpu with diPending := 2 } 4)
  rw [ime, diPending, show (s.after { s.cpu with diPending := 2 } 4).cpu.eiPending = 0 from idle]
  exact ⟨rfl, rfl⟩

/-- Settles O8: the countdown stands at 1 when the following instruction runs, which does not write it
(`exec_controlWrittenBy`). After an `EI` that instruction may be a `DI`, but not one that commits with the `EI`
(`exec_diPending_ne_one`); after a `DI` it may be an `EI`, which loses. -/
theorem eiAndDiTakeTwoSteps : Obligations.EiAndDiTakeTwoSteps := by
  unfold Obligations.EiAndDiTakeTwoSteps
  constructor
  · intro s t m i ei idle other run
    obtain ⟨ime, eiPending, diPending⟩ := imeCommit_after_ei ei idle
    obtain ⟨-, kept, -, -, -⟩ := exec_controlWrittenBy i _ m run
    have due : m.cpu.eiPending = 1 := (kept other).trans eiPending
    obtain ⟨ime', eiPending', -⟩ := imeCommit_control m
    rw [ime', eiPending', due, if_neg (exec_diPending_ne_one run diPending)]
    exact ⟨ime, rfl, rfl⟩
  · intro s t m i di idle other run
    obtain ⟨ime, diPending⟩ := imeCommit_after_di di idle
    obtain ⟨-, -, kept, -, -⟩ := exec_controlWrittenBy i _ m run
    have due : m.cpu.diPending = 1 := (kept other).trans diPending
    obtain ⟨ime', -, diPending'⟩ := imeCommit_control m
    rw [ime', diPending', due]
    exact ⟨ime, rfl, rfl⟩

end Sys2Proof.Machine
end
